-- ==== Sys2Proof/Word.lean ====
section
/-!
DEFINITION. The two word types of the SM83 core: the 8-bit data width (R7, R160) and the 16-bit width of a
register pair, of PC, of SP and of an address (R7, R150). Arithmetic on an N-bit destination is modulo 2^N (R10),
which is BitVec's own arithmetic.
-/
namespace Sys2Proof

/-- An 8-bit value: a general register, one bus access (R7, R160). -/
abbrev Byte := BitVec 8

/-- A 16-bit value: a register pair, PC, SP, an address (R7, R150). -/
abbrev Word := BitVec 16

end Sys2Proof
end

