-- ==== Sys2Proof/WellFormed.lean ====
section
/-!
DEFINITION. Which terms of Instr are instructions. Every operand but one has exactly the values its encoding admits
(R252 to R257: registers are of a type without field value 6, immediates are whole bytes), so the one check is R260's:
`illegal` carries one of the eleven unassigned opcode bytes.
-/
namespace Sys2Proof

/-- R260: the eleven unassigned primary opcodes. -/
def unassignedOpcodes : List Byte :=
  [0xD3#8, 0xDB#8, 0xDD#8, 0xE3#8, 0xE4#8, 0xEB#8, 0xEC#8, 0xED#8, 0xF4#8, 0xFC#8, 0xFD#8]

/-- R260: an ILLEGAL instruction is one of the eleven unassigned bytes. Every term of every other constructor is an
instruction. -/
def Instr.wellFormed : Instr → Bool
  | .illegal op => unassignedOpcodes.contains op
  | _ => true

end Sys2Proof
end

