-- ==== Sys2Proof/Config.lean ====
section
/-!
DEFINITION. What an implementation or the host fixes: the fixed sizes and times of R7, the parameter
`illegal_opcode_mode` of R9, and the one free value of the model, the host's wall-clock sample of R226.
-/
namespace Sys2Proof

/-- R9, R505: what the eleven unassigned opcodes do. The value stands in State (a machine is built with one and
never changes it, log entry 2). -/
inductive IllegalOpcodeMode where
  | lock
  | nop
  deriving DecidableEq, Repr, Inhabited

/-- The five RTC register bytes, in the order of R73 and R226. -/
structure RtcSample where
  seconds : Byte
  minutes : Byte
  hours   : Byte
  dayLo   : Byte
  dayHi   : Byte
  deriving DecidableEq, Repr, Inhabited

namespace Config

/-- R226: `HostRtcSample()` is a host input on which the model "places no constraint". The n-th sample the host
gives is this constant at n; it has no body, so nothing can be proved of its value (log entry 3). -/
opaque hostRtcSample : Nat → RtcSample

/-- R7: dots in a scanline. -/
def dotsPerLine : Nat := 456
/-- R7: scanlines in a frame. -/
def linesPerFrame : Nat := 154
/-- R7: visible scanlines, and the line at which Vblank begins. -/
def visibleLines : Nat := 144
/-- R7: dots in a frame, 154 lines of 456 dots. -/
def dotsPerFrame : Nat := 70224
/-- R7: pixels in a visible line. -/
def screenWidth : Nat := 160
/-- R7: the length of mode 2 in dots. -/
def oamScanDots : Nat := 80
/-- R7: the length of mode 3 in dots, a fixed approximation. -/
def drawingDots : Nat := 172
/-- R7: sprites kept on one line. -/
def spritesPerLine : Nat := 10
/-- R7: entries of OAM. -/
def oamEntries : Nat := 40
/-- R7: bytes of OAM. -/
def oamBytes : Nat := 160
/-- R7: bytes of VRAM. -/
def vramBytes : Nat := 8192
/-- R7: bytes of work RAM. -/
def wramBytes : Nat := 8192
/-- R7: bytes of high RAM. -/
def hramBytes : Nat := 127
/-- R206: bytes in one ROM bank. -/
def romBankBytes : Nat := 0x4000
/-- R206: bytes in one cartridge RAM bank, the size of its window. -/
def ramBankBytes : Nat := 0x2000
/-- R7: T-cycles of an interrupt service. -/
def serviceCycles : Nat := 20
/-- R7: T-cycles of a halted step, and by R530 of a stopped and of a locked one. -/
def idleCycles : Nat := 4
/-- R574: the T-cycles from a TIMA overflow to its reload. -/
def timaReloadDelay : Nat := 4

end Config
end Sys2Proof
end

