-- ==== Sys2Proof/Machine/State.lean ====
section
/-!
DEFINITION. The state of the core (R77), its reset value (R720), and the reasons a step or a construction can stop.
State is plain data. Beside the spec's own state it holds the configuration of R77 as fields that no step changes
(log entry 2) and, in `host`, what the core gives to and takes from the host: the values the last `Step()` returned,
the number of wall-clock samples taken and the RTC writes emitted (log entries 3, 5 and 6).
-/
namespace Sys2Proof.Machine

/-! ### Memories -/

/-- A byte array of R58 as a list of (offset, byte) pairs, offsets strictly rising, no entry equal to 0x00, which is
what an unlisted offset reads as (log entry 1). The offset counts from the array's first byte. -/
abbrev Memory := List Host.Cell

/-- R71: the framebuffer in the same form: (row x 160 + column, two-bit shade), an unlisted entry being shade 0. -/
abbrev Framebuffer := List (Nat × BitVec 2)

/-! ### The CPU -/

/-- R52: the four flags of F. F[3:0] has no storage: it always reads zero. -/
structure Flags where
  z : Bool
  n : Bool
  h : Bool
  c : Bool
  deriving DecidableEq, Repr

/-- R57: the CPU's mode. -/
inductive CpuMode where
  | running
  | halted
  | stopped
  | locked
  deriving DecidableEq, Repr

/-- R78, R520: the one fault a running core records. -/
structure IllegalOpcode where
  pc : Word
  op : Byte
  deriving DecidableEq, Repr

/-- R50 to R57 and R78: the CPU's registers and control state. -/
structure Cpu where
  a : Byte
  flags : Flags
  b : Byte
  c : Byte
  d : Byte
  e : Byte
  h : Byte
  l : Byte
  sp : Word
  pc : Word
  /-- R55: the interrupt master enable. -/
  ime : Bool
  /-- R56: the pending-enable counter of EI, 0 to 2. -/
  eiDelay : Nat
  mode : CpuMode
  faultRecord : Option IllegalOpcode
  deriving DecidableEq, Repr

/-! ### Devices -/

/-- R61 to R64: the timer. `tac` is TAC's stored bits 2..0. -/
structure Timer where
  divCounter : Word
  tima : Byte
  tma : Byte
  tac : BitVec 3
  /-- R64: T-cycles left until a pending reload, 0 when none is pending. -/
  reloadDelay : Nat
  deriving DecidableEq, Repr

/-- R600, R601: the PPU's modes, in the order of their number. -/
inductive PpuMode where
  | hblank
  | vblank
  | oamScan
  | drawing
  deriving DecidableEq, Repr

/-- R66 to R68, R70 and R71: the PPU's registers and its hidden state. `statSelect` is STAT's stored bits 6..3. -/
structure Ppu where
  lcdc : Byte
  statSelect : BitVec 4
  scy : Byte
  scx : Byte
  ly : Byte
  lyc : Byte
  bgp : Byte
  obp0 : Byte
  obp1 : Byte
  wy : Byte
  wx : Byte
  /-- R71: dots elapsed in the current line, 0 to 455. -/
  dot : Nat
  mode : PpuMode
  statLine : Bool
  windowLine : Byte
  frameReady : Bool
  /-- R71: dots counted while the LCD is off, 0 to 70223. -/
  lcdOffDots : Nat
  framebuffer : Framebuffer
  deriving DecidableEq, Repr

/-- R59 and R72: the joypad. The select bits are P1's stored bits 5 and 4; bit = 1 in `buttons` means pressed. -/
structure Joypad where
  selButtons : Bool
  selDirs : Bool
  buttons : Byte
  deriving DecidableEq, Repr

/-- R60: the serial registers. SC stores bits 7 and 0. -/
structure Serial where
  sb : Byte
  transferStart : Bool
  clockSelect : Bool
  deriving DecidableEq, Repr

/-! ### The cartridge -/

/-- R73: the registers of an MBC1. `bankingMode` is true for RAM banking. -/
structure Mbc1 where
  romBankLo : BitVec 5
  ramBankOrUpper : BitVec 2
  bankingMode : Bool
  ramEnabled : Bool
  deriving DecidableEq, Repr

/-- R73: the registers of an MBC3. -/
structure Mbc3 where
  romBank : BitVec 7
  ramOrRtcSelect : Byte
  ramEnabled : Bool
  rtcLatched : RtcSample
  latchPrev : Byte
  deriving DecidableEq, Repr

/-- R200: the mapper, "a tagged variant (one case per mapper)", each with its registers. -/
inductive Mapper where
  | romOnly
  | mbc1 (regs : Mbc1)
  | mbc3 (regs : Mbc3)
  deriving DecidableEq, Repr

/-- R8, R58 and R73: the cartridge. `romBanks` and `ramSize` come from its header and never change. -/
structure Cart where
  romBanks : Nat
  ramSize : Nat
  mapper : Mapper
  rom : Memory
  sram : Memory
  deriving DecidableEq, Repr

/-! ### The host's side -/

/-- R531: the exit reason of a step. -/
inductive ExitReason where
  | step
  | halt
  | interruptTaken
  | stopped
  | locked
  deriving DecidableEq, Repr

/-- R227: one output event `HostRtcWrite(i, v)`. -/
structure RtcWrite where
  register : Nat
  value : Byte
  deriving DecidableEq, Repr

/-- What passes between the core and its host. None of it is state of the core (R76, R226, R227). -/
structure HostSide where
  /-- R530: the T-cycle count the last `Step()` returned. -/
  cycles : Nat
  /-- R531: the exit reason the last `Step()` returned. -/
  exit : ExitReason
  /-- R226: how many wall-clock samples the host has been asked for. -/
  rtcSamples : Nat
  /-- R227: the RTC writes emitted to the host, oldest first. -/
  rtcWrites : List RtcWrite
  deriving DecidableEq, Repr

/-! ### The machine -/

/-- R77: the complete state of the core, with its configuration. -/
structure State where
  cpu : Cpu
  vram : Memory
  wram : Memory
  oam : Memory
  hram : Memory
  cart : Cart
  joypad : Joypad
  serial : Serial
  timer : Timer
  /-- R65: IF[4:0]. -/
  intFlag : BitVec 5
  /-- R65: IE[4:0]. -/
  intEnable : BitVec 5
  ppu : Ppu
  /-- R69: the DMA register. -/
  dma : Byte
  /-- R9: configuration, never changed. -/
  illegalMode : IllegalOpcodeMode
  host : HostSide
  deriving DecidableEq, Repr

/-- Why the core stops. A running core has no fault outcome ("once constructed, the core cannot fail at runtime",
R521): `step` and `exec` never answer one, and the recorded IllegalOpcode of R520 is a next state with `faultRecord`
set. -/
inductive Fault where
  /-- R205: raised by construction alone (`new`), for a malformed cartridge image. Safe: there is no core. -/
  | malformedRom
  deriving DecidableEq, Repr

/-- Why an instruction has no meaning here. -/
inductive Refusal where
  /-- Raised by an arm of `exec` whose instruction has no meaning yet; no arm does. Safe. -/
  | notModelled (mnemonic : String)
  deriving DecidableEq, Repr

/-- What a step or an instruction's meaning answers. -/
abbrev Result := Host.Outcome State Fault Refusal

/-! ### Reset -/

/-- R9, R58: the parameter `ram_init`, the contents of the four RAM arrays at construction. -/
structure RamInit where
  vram : Memory
  wram : Memory
  oam : Memory
  hram : Memory
  deriving DecidableEq, Repr

/-- The `ram_init` that lists nothing: every byte 0x00 (log entry 1). -/
def RamInit.zero : RamInit := { vram := [], wram := [], oam := [], hram := [] }

/-- R51 to R57: the CPU after construction. -/
def Cpu.postBoot : Cpu :=
  { a := 0x01#8, flags := { z := true, n := false, h := true, c := true }
    b := 0x00#8, c := 0x13#8, d := 0x00#8, e := 0xD8#8, h := 0x01#8, l := 0x4D#8
    sp := 0xFFFE#16, pc := 0x0100#16
    ime := false, eiDelay := 0, mode := .running, faultRecord := none }

/-- R62 to R64: the timer after construction. -/
def Timer.postBoot : Timer :=
  { divCounter := 0xABCC#16, tima := 0x00#8, tma := 0x00#8, tac := 0#3, reloadDelay := 0 }

/-- R66 to R68, R70 and R71: the PPU after construction. -/
def Ppu.postBoot : Ppu :=
  { lcdc := 0x91#8, statSelect := 0#4, scy := 0x00#8, scx := 0x00#8, ly := 0x00#8, lyc := 0x00#8
    bgp := 0xFC#8, obp0 := 0xFF#8, obp1 := 0xFF#8, wy := 0x00#8, wx := 0x00#8
    dot := 0, mode := .oamScan, statLine := false, windowLine := 0x00#8
    frameReady := false, lcdOffDots := 0, framebuffer := [] }

/-- R74: an MBC1's registers after construction. -/
def Mbc1.postBoot : Mbc1 :=
  { romBankLo := 0#5, ramBankOrUpper := 0#2, bankingMode := false, ramEnabled := false }

/-- R74: an MBC3's registers after construction. -/
def Mbc3.postBoot : Mbc3 :=
  { romBank := 0#7, ramOrRtcSelect := 0x00#8, ramEnabled := false
    rtcLatched := { seconds := 0x00#8, minutes := 0x00#8, hours := 0x00#8, dayLo := 0x00#8, dayHi := 0x00#8 }
    latchPrev := 0xFF#8 }

/-- R720: the state that construction builds around a cartridge, for each value of the open parameters of R9. -/
def State.postBoot (cart : Cart) (ram : RamInit) (illegalMode : IllegalOpcodeMode) : State :=
  { cpu := .postBoot
    vram := ram.vram, wram := ram.wram, oam := ram.oam, hram := ram.hram
    cart := cart
    joypad := { selButtons := false, selDirs := false, buttons := 0x00#8 }
    serial := { sb := 0x00#8, transferStart := false, clockSelect := false }
    timer := .postBoot
    intFlag := 0x01#5, intEnable := 0x00#5
    ppu := .postBoot
    dma := 0xFF#8
    illegalMode := illegalMode
    host := { cycles := 0, exit := .step, rtcSamples := 0, rtcWrites := [] } }

/-- The cartridge with nothing in it: a 32 KiB image of zeros, which R202 to R204 read as RomOnly with two ROM banks
and no cartridge RAM (log entry 7). -/
def Cart.blank : Cart := { romBanks := 2, ramSize := 0, mapper := .romOnly, rom := [], sram := [] }

/-- The machine right after reset (R720), around the blank cartridge, with the default `illegal_opcode_mode`. -/
def State.reset : State := .postBoot .blank .zero .lock

end Sys2Proof.Machine
end

