-- ==== Sys2Proof/Machine/Store.lean ====
section
/-!
DEFINITION. Reading and writing the sparse stores that hold the memories (R58) and the framebuffer (R71): lists of
(key, value) pairs in one canonical form, keys strictly rising and no value zero (log entry 1).
-/
namespace Sys2Proof.Machine

/-- The value at a key; a key that is not listed reads as zero. -/
def Store.read {w : Nat} : List (Nat × BitVec w) → Nat → BitVec w
  | [], _ => 0#w
  | (k, x) :: rest, key => if k = key then x else Store.read rest key

/-- Put an entry in front of a store, leaving it out when it is what an unlisted key reads as. -/
def Store.cons {w : Nat} (key : Nat) (v : BitVec w) (rest : List (Nat × BitVec w)) : List (Nat × BitVec w) :=
  if v = 0#w then rest else (key, v) :: rest

/-- Write a value at a key, keeping the canonical form. -/
def Store.write {w : Nat} : List (Nat × BitVec w) → Nat → BitVec w → List (Nat × BitVec w)
  | [], key, v => Store.cons key v []
  | (k, x) :: rest, key, v =>
    if k < key then (k, x) :: Store.write rest key v
    else if k = key then Store.cons key v rest
    else Store.cons key v ((k, x) :: rest)

/-- Every key of the store is at least `low`, the keys rise strictly, every value is not zero. -/
def Store.wfFrom {w : Nat} : Nat → List (Nat × BitVec w) → Bool
  | _, [] => true
  | low, (k, x) :: rest => decide (low ≤ k) && decide (x ≠ 0#w) && Store.wfFrom (k + 1) rest

/-- The canonical form, with every key below `size`, the length of the array the store holds. -/
def Store.wf {w : Nat} (size : Nat) (m : List (Nat × BitVec w)) : Bool :=
  Store.wfFrom 0 m && m.all (fun entry => decide (entry.1 < size))

/-- The store of a list of values, the first at key `start`. -/
def Store.ofListFrom {w : Nat} : Nat → List (BitVec w) → List (Nat × BitVec w)
  | _, [] => []
  | start, v :: rest => Store.cons start v (Store.ofListFrom (start + 1) rest)

/-- R58: the canonical form of one byte array of `size` bytes. -/
abbrev Memory.wf (size : Nat) (m : Memory) : Bool := Store.wf size m

end Sys2Proof.Machine
end

