-- ==== Sys2Proof/Machine/Cartridge.lean ====
section
/-!
DEFINITION. The cartridge (21_cartridge.md): bank addressing, the reads of each mapper, and the header by which a
cartridge is constructed. The writes, which can reach the host, are in Ops.lean.
-/
namespace Sys2Proof.Machine

/-! ### Bank addressing -/

/-- R206: the index of `RomByte(bank, off)` in the image. -/
def Cart.romIndex (c : Cart) (bank off : Nat) : Nat := bank % c.romBanks * Config.romBankBytes + off

/-- R206: `RomByte(bank, off)`. -/
def Cart.romByte (c : Cart) (bank off : Nat) : Byte := Store.read c.rom (c.romIndex bank off)

/-- R206: `SramIndex(bank, off)`, for a cartridge with RAM. -/
def Cart.sramIndex (c : Cart) (bank off : Nat) : Nat := (bank * Config.ramBankBytes + off) % c.ramSize

/-- R214, R216, R213: the bank mapped at 0x4000-0x7FFF. -/
def Cart.switchableBank (c : Cart) : Nat :=
  match c.mapper with
  | .romOnly => 1
  | .mbc1 r =>
    let lo := if r.romBankLo = 0#5 then 1#5 else r.romBankLo
    if r.bankingMode then lo.toNat else (r.ramBankOrUpper ++ lo).toNat
  | .mbc3 r => if r.romBank = 0#7 then 1 else r.romBank.toNat

/-- R210, R213, R214, R216: the index in the image of the ROM byte at an address of 0x0000-0x7FFF. -/
def Cart.romWindow (c : Cart) (a : Word) : Nat :=
  if a.toNat < 0x4000 then c.romIndex 0 a.toNat else c.romIndex c.switchableBank (a.toNat - 0x4000)

/-- What an address of the RAM window 0xA000-0xBFFF reaches. -/
inductive RamTarget where
  /-- Nothing: reads return 0xFF, writes are ignored (R213, R215, R217). -/
  | closed
  /-- A byte of cartridge RAM, by its index (R206). -/
  | sram (index : Nat)
  /-- An RTC register, 0 to 4 (R217). -/
  | rtc (register : Nat)
  deriving DecidableEq, Repr

/-- R215, R217: the RAM byte at `off` of a bank, closed for a cartridge without RAM. -/
def Cart.sramTarget (c : Cart) (bank off : Nat) : RamTarget :=
  if c.ramSize = 0 then .closed else .sram (c.sramIndex bank off)

/-- R213, R215, R217: what an address of 0xA000-0xBFFF reaches. -/
def Cart.ramWindow (c : Cart) (a : Word) : RamTarget :=
  let off := a.toNat - 0xA000
  match c.mapper with
  | .romOnly => .closed
  | .mbc1 r =>
    if r.ramEnabled then c.sramTarget (if r.bankingMode then r.ramBankOrUpper.toNat else 0) off else .closed
  | .mbc3 r =>
    let sel := r.ramOrRtcSelect.toNat
    if !r.ramEnabled then .closed
    else if sel ≤ 0x03 then c.sramTarget sel off
    else if 0x08 ≤ sel ∧ sel ≤ 0x0C then .rtc (sel - 0x08)
    else .closed

/-- R73: the latched RTC byte of a register number. -/
def rtcRegister (t : RtcSample) (register : Nat) : Byte :=
  match register with
  | 0 => t.seconds
  | 1 => t.minutes
  | 2 => t.hours
  | 3 => t.dayLo
  | _ => t.dayHi

/-- R217: the latched RTC byte that a read returns. -/
def Cart.rtcByte (c : Cart) (register : Nat) : Byte :=
  match c.mapper with
  | .mbc3 r => rtcRegister r.rtcLatched register
  | .romOnly => 0xFF#8
  | .mbc1 _ => 0xFF#8

/-- R213, R215, R217: a read of 0xA000-0xBFFF. -/
def Cart.readRam (c : Cart) (a : Word) : Byte :=
  match c.ramWindow a with
  | .closed => 0xFF#8
  | .sram index => Store.read c.sram index
  | .rtc register => c.rtcByte register

/-- R210: a read of 0x0000-0x7FFF. -/
def Cart.readRom (c : Cart) (a : Word) : Byte := Store.read c.rom (c.romWindow a)

/-! ### Register writes -/

/-- R211, R212: the RAM enable. -/
def ramEnableValue (v : Byte) : Bool := decide (v.extractLsb' 0 4 = 0xA#4)

/-- R211: an MBC1 register write. -/
def Mbc1.write (r : Mbc1) (a : Word) (v : Byte) : Mbc1 :=
  if a.toNat < 0x2000 then { r with ramEnabled := ramEnableValue v }
  else if a.toNat < 0x4000 then { r with romBankLo := v.extractLsb' 0 5 }
  else if a.toNat < 0x6000 then { r with ramBankOrUpper := v.extractLsb' 0 2 }
  else { r with bankingMode := v.getLsbD 0 }

/-- R212: whether an MBC3 register write completes the latch sequence, 0x00 then 0x01. -/
def Mbc3.latches (r : Mbc3) (a : Word) (v : Byte) : Bool :=
  decide (0x6000 ≤ a.toNat) && decide (r.latchPrev = 0x00#8) && decide (v = 0x01#8)

/-- R212: an MBC3 register write, `sample` being what the host gives if the write latches the RTC. -/
def Mbc3.write (r : Mbc3) (a : Word) (v : Byte) (sample : RtcSample) : Mbc3 :=
  if a.toNat < 0x2000 then { r with ramEnabled := ramEnableValue v }
  else if a.toNat < 0x4000 then { r with romBank := v.extractLsb' 0 7 }
  else if a.toNat < 0x6000 then { r with ramOrRtcSelect := v }
  else if r.latches a v then { r with rtcLatched := sample, latchPrev := v }
  else { r with latchPrev := v }

/-! ### Header and construction -/

/-- R202: the mapper a cartridge type byte names, with its registers after construction (R74). -/
def mapperOfType (v : Byte) : Option Mapper :=
  match v.toNat with
  | 0x00 => some .romOnly
  | 0x01 | 0x02 | 0x03 => some (.mbc1 .postBoot)
  | 0x0F | 0x10 | 0x11 | 0x12 | 0x13 => some (.mbc3 .postBoot)
  | _ => none

/-- R203: the ROM bank count a ROM size byte names. -/
def romBanksOfSize (v : Byte) : Option Nat := if v.toNat ≤ 0x08 then some (2 <<< v.toNat) else none

/-- R204: the cartridge RAM size a RAM size byte names. -/
def ramSizeOfSize (v : Byte) : Option Nat :=
  match v.toNat with
  | 0x00 => some 0
  | 0x01 => some 2048
  | 0x02 => some 8192
  | 0x03 => some 32768
  | 0x04 => some 131072
  | 0x05 => some 65536
  | _ => none

/-- R205: the consistency of an image with its header. -/
def imageConsistent (mapper : Mapper) (romBanks length : Nat) : Bool :=
  decide (length = romBanks * Config.romBankBytes) && (decide (mapper ≠ .romOnly) || decide (romBanks = 2))

/-- R201 to R205, R75: the cartridge of an image and of optional cartridge RAM bytes; `none` when the image is
malformed. -/
def Cart.ofImage (image : List Byte) (sramBytes : Option (List Byte)) : Option Cart :=
  if image.length < 0x150 then none else
  match mapperOfType (image.getD 0x0147 0#8), romBanksOfSize (image.getD 0x0148 0#8),
    ramSizeOfSize (image.getD 0x0149 0#8) with
  | some mapper, some romBanks, some ramSize =>
    if imageConsistent mapper romBanks image.length then
      some { romBanks := romBanks, ramSize := ramSize, mapper := mapper
             rom := Store.ofListFrom 0 image
             sram := Store.ofListFrom 0 ((sramBytes.getD []).take ramSize) }
    else none
  | _, _, _ => none

/-- R230: `sram_snapshot()`, all `ram_size` bytes. -/
def Cart.sramSnapshot (c : Cart) : List Byte := (List.range c.ramSize).map (Store.read c.sram)

end Sys2Proof.Machine
end

