-- ==== Sys2Proof/Machine/Operands.lean ====
section
/-!
DEFINITION. The CPU's register operands: every read and write of a register goes through here (R50 to R54, R252 to
R255). Each register has one home in `Cpu`; the pairs are views of their halves.
-/
namespace Sys2Proof.Machine

/-! ### Bytes of a word -/

/-- R10: `v[15:8]`. -/
def highByte (v : Word) : Byte := v.extractLsb' 8 8

/-- R10: `v[7:0]`. -/
def lowByte (v : Word) : Byte := v.extractLsb' 0 8

/-- R10: the 16-bit value `hi:lo`. -/
def joinBytes (hi lo : Byte) : Word := hi ++ lo

/-- R257: `sext_16(e)`. -/
def signExtend16 (e : Byte) : Word := e.signExtend 16

/-! ### Eight-bit registers -/

/-- R50: read an 8-bit register. -/
def Cpu.reg8 (c : Cpu) : Reg8 → Byte
  | .b => c.b
  | .c => c.c
  | .d => c.d
  | .e => c.e
  | .h => c.h
  | .l => c.l
  | .a => c.a

/-- R50: write an 8-bit register. -/
def Cpu.setReg8 (c : Cpu) (r : Reg8) (v : Byte) : Cpu :=
  match r with
  | .b => { c with b := v }
  | .c => { c with c := v }
  | .d => { c with d := v }
  | .e => { c with e := v }
  | .h => { c with h := v }
  | .l => { c with l := v }
  | .a => { c with a := v }

/-- R52: F as a byte: Z, N, H, C in bits 7..4 and zeros below. -/
def Flags.toByte (f : Flags) : Byte :=
  BitVec.ofBool f.z ++ BitVec.ofBool f.n ++ BitVec.ofBool f.h ++ BitVec.ofBool f.c ++ 0#4

/-- R52, R324: the flags of a byte; its bits 3..0 are discarded. -/
def Flags.ofByte (v : Byte) : Flags :=
  { z := v.getLsbD 7, n := v.getLsbD 6, h := v.getLsbD 5, c := v.getLsbD 4 }

/-! ### The state's registers -/

/-- R50: read an 8-bit register. -/
def State.reg8 (s : State) (r : Reg8) : Byte := s.cpu.reg8 r

/-- R50: write an 8-bit register. -/
def State.setReg8 (s : State) (r : Reg8) (v : Byte) : State := { s with cpu := s.cpu.setReg8 r v }

/-- R52: the flags. -/
def State.flags (s : State) : Flags := s.cpu.flags

/-- R52: write the four flags. -/
def State.setFlags (s : State) (f : Flags) : State := { s with cpu := { s.cpu with flags := f } }

/-- R53: the program counter. -/
def State.pc (s : State) : Word := s.cpu.pc

/-- R11: `PC <- target`. -/
def State.setPc (s : State) (v : Word) : State := { s with cpu := { s.cpu with pc := v } }

/-- R54: the stack pointer. -/
def State.sp (s : State) : Word := s.cpu.sp

/-- R54: write the stack pointer. -/
def State.setSp (s : State) (v : Word) : State := { s with cpu := { s.cpu with sp := v } }

/-- R55: write IME. -/
def State.setIme (s : State) (v : Bool) : State := { s with cpu := { s.cpu with ime := v } }

/-- R56: write the pending-enable counter. -/
def State.setEiDelay (s : State) (v : Nat) : State := { s with cpu := { s.cpu with eiDelay := v } }

/-- R57: write the CPU's mode. -/
def State.setMode (s : State) (v : CpuMode) : State := { s with cpu := { s.cpu with mode := v } }

/-- R530: the count of T-cycles that the instruction makes `Step()` return. -/
def State.took (s : State) (cycles : Nat) : State := { s with host := { s.host with cycles := cycles } }

/-! ### Pairs -/

/-- R50: BC. -/
def State.bc (s : State) : Word := joinBytes (s.reg8 .b) (s.reg8 .c)

/-- R50: DE. -/
def State.de (s : State) : Word := joinBytes (s.reg8 .d) (s.reg8 .e)

/-- R50: HL. -/
def State.hl (s : State) : Word := joinBytes (s.reg8 .h) (s.reg8 .l)

/-- R50, R52: AF. -/
def State.af (s : State) : Word := joinBytes (s.reg8 .a) s.flags.toByte

/-- R11: write a pair, its high byte to the first-named register and its low byte to the second. -/
def State.setPair (s : State) (first second : Reg8) (v : Word) : State :=
  (s.setReg8 first (highByte v)).setReg8 second (lowByte v)

/-- R11: `HL <- v`. -/
def State.setHl (s : State) (v : Word) : State := s.setPair .h .l v

/-- R253: read a pair or SP. -/
def State.reg16 (s : State) : Reg16 → Word
  | .bc => s.bc
  | .de => s.de
  | .hl => s.hl
  | .sp => s.sp

/-- R253: write a pair or SP. -/
def State.setReg16 (s : State) (rr : Reg16) (v : Word) : State :=
  match rr with
  | .bc => s.setPair .b .c v
  | .de => s.setPair .d .e v
  | .hl => s.setHl v
  | .sp => s.setSp v

/-- R254, R322: the pair PUSH pushes. -/
def State.pushReg (s : State) : PushReg → Word
  | .bc => s.bc
  | .de => s.de
  | .hl => s.hl
  | .af => s.af

/-- R323: write the pair POP pops, other than AF. -/
def State.setPopReg (s : State) (qq : PopReg) (v : Word) : State :=
  match qq with
  | .bc => s.setPair .b .c v
  | .de => s.setPair .d .e v
  | .hl => s.setHl v

/-- R324: `A <- v[15:8]; F <- v[7:0] & 0xF0`. -/
def State.setAf (s : State) (v : Word) : State := (s.setReg8 .a (highByte v)).setFlags (.ofByte (lowByte v))

/-- R255: `Cond(cc)` on the current flags. -/
def Flags.holds (f : Flags) : Cond → Bool
  | .nz => !f.z
  | .z => f.z
  | .nc => !f.c
  | .c => f.c

/-- R257: the high-page address `0xFF00 + n`. -/
def highPage (n : Byte) : Word := joinBytes 0xFF#8 n

end Sys2Proof.Machine
end

