-- ==== Sys2Proof/Machine/Flags.lean ====
section
/-!
DEFINITION. Every result and flag computation of the spec, as pure functions of the operands: the 8-bit ALU (R350),
INC and DEC (R376, R378), DAA, CPL, SCF and CCF (R380 to R383), ADD HL,rr (R400), SP+e (R403), the accumulator rotates
(R430 to R433), the CB-page rotates and shifts (R434) and BIT (R451).
-/
namespace Sys2Proof.Machine

/-- R350: the carry flag as the number 0 or 1. -/
def carryIn (c : Bool) : Nat := if c then 1 else 0

/-- R350: the flags of an addition of `a`, `v` and a carry-in. -/
def addFlags (a v : Byte) (cin : Nat) : Flags :=
  { z := decide ((a.toNat + v.toNat + cin) % 256 = 0)
    n := false
    h := decide (a.toNat % 16 + v.toNat % 16 + cin > 0xF)
    c := decide (a.toNat + v.toNat + cin > 0xFF) }

/-- R350: the flags of a subtraction of `v` and a borrow-in from `a`. -/
def subFlags (a v : Byte) (cin : Nat) : Flags :=
  { z := decide (((a.toNat : Int) - v.toNat - cin) % 256 = 0)
    n := true
    h := decide (a.toNat % 16 < v.toNat % 16 + cin)
    c := decide (a.toNat < v.toNat + cin) }

/-- R350: the flags of AND, XOR and OR; AND sets H. -/
def logicFlags (res : Byte) (h : Bool) : Flags :=
  { z := decide (res = 0x00#8), n := false, h := h, c := false }

/-- R350: the result of `Alu8`. CP's result "is computed for the flags only". -/
def alu8Result (op : AluOp) (a v : Byte) (cin : Bool) : Byte :=
  match op with
  | .add => BitVec.ofNat 8 (a.toNat + v.toNat)
  | .adc => BitVec.ofNat 8 (a.toNat + v.toNat + carryIn cin)
  | .sub => BitVec.ofInt 8 ((a.toNat : Int) - v.toNat)
  | .sbc => BitVec.ofInt 8 ((a.toNat : Int) - v.toNat - carryIn cin)
  | .and => a &&& v
  | .xor => a ^^^ v
  | .or => a ||| v
  | .cp => BitVec.ofInt 8 ((a.toNat : Int) - v.toNat)

/-- R350: the flags of `Alu8`. -/
def alu8Flags (op : AluOp) (a v : Byte) (cin : Bool) : Flags :=
  match op with
  | .add => addFlags a v 0
  | .adc => addFlags a v (carryIn cin)
  | .sub => subFlags a v 0
  | .sbc => subFlags a v (carryIn cin)
  | .and => logicFlags (a &&& v) true
  | .xor => logicFlags (a ^^^ v) false
  | .or => logicFlags (a ||| v) false
  | .cp => subFlags a v 0

/-- R350: whether the instruction writes its result to A; CP does not. -/
def aluWritesA : AluOp → Bool
  | .cp => false
  | .add => true
  | .adc => true
  | .sub => true
  | .sbc => true
  | .and => true
  | .xor => true
  | .or => true

/-- R376: the flags of INC; C is unchanged. -/
def incFlags (f : Flags) (old : Byte) : Flags :=
  { f with z := decide (old + 1#8 = 0x00#8), n := false, h := decide (old.extractLsb' 0 4 = 0xF#4) }

/-- R378: the flags of DEC; C is unchanged. -/
def decFlags (f : Flags) (old : Byte) : Flags :=
  { f with z := decide (old - 1#8 = 0x00#8), n := true, h := decide (old.extractLsb' 0 4 = 0x0#4) }

/-- R380: whether DAA adjusts by 0x60 after an addition. -/
def daaHighAdjust (a : Byte) (f : Flags) : Bool := f.c || decide (a.toNat > 0x99)

/-- R380: whether DAA adjusts by 0x06 after an addition. The test is on A as the 0x60 adjustment leaves it, whose low
nibble that adjustment does not change. -/
def daaLowAdjust (a : Byte) (f : Flags) : Bool := f.h || decide (a.toNat % 16 > 0x09)

/-- R380: A after DAA. -/
def daaResult (a : Byte) (f : Flags) : Byte :=
  if f.n then
    (a - if f.c then 0x60#8 else 0x00#8) - if f.h then 0x06#8 else 0x00#8
  else
    (a + if daaHighAdjust a f then 0x60#8 else 0x00#8) + if daaLowAdjust a f then 0x06#8 else 0x00#8

/-- R380: the flags after DAA; N is unchanged. -/
def daaFlags (a : Byte) (f : Flags) : Flags :=
  { f with z := decide (daaResult a f = 0x00#8), h := false, c := if f.n then f.c else daaHighAdjust a f }

/-- R381: the flags of CPL; Z and C are unchanged. -/
def cplFlags (f : Flags) : Flags := { f with n := true, h := true }

/-- R382: the flags of SCF; Z is unchanged. -/
def scfFlags (f : Flags) : Flags := { f with n := false, h := false, c := true }

/-- R383: the flags of CCF; Z is unchanged. -/
def ccfFlags (f : Flags) : Flags := { f with n := false, h := false, c := !f.c }

/-- R400: the flags of ADD HL,rr; Z is unchanged. -/
def addHlFlags (f : Flags) (hl v : Word) : Flags :=
  { f with
    n := false
    h := decide (hl.toNat % 0x1000 + v.toNat % 0x1000 > 0x0FFF)
    c := decide (hl.toNat + v.toNat > 0xFFFF) }

/-- R403: the sum of `SpPlusE(e)`. -/
def spPlusE (sp : Word) (e : Byte) : Word := sp + signExtend16 e

/-- R403: the flags of `SpPlusE(e)`, from the unsigned sum of the low bytes. -/
def spPlusEFlags (sp : Word) (e : Byte) : Flags :=
  { z := false
    n := false
    h := decide (sp.toNat % 16 + e.toNat % 16 > 0x0F)
    c := decide (sp.toNat % 256 + e.toNat > 0xFF) }

/-- R434: the result of `Shift8`. -/
def shift8Result (k : ShiftOp) (v : Byte) (cin : Bool) : Byte :=
  match k with
  | .rlc => v.extractLsb' 0 7 ++ v.extractLsb' 7 1
  | .rrc => v.extractLsb' 0 1 ++ v.extractLsb' 1 7
  | .rl => v.extractLsb' 0 7 ++ BitVec.ofBool cin
  | .rr => BitVec.ofBool cin ++ v.extractLsb' 1 7
  | .sla => v <<< 1
  | .sra => (v >>> 1) ||| (v &&& 0x80#8)
  | .swap => v.extractLsb' 0 4 ++ v.extractLsb' 4 4
  | .srl => v >>> 1

/-- R434: the carry of `Shift8`, the bit shifted out. -/
def shift8Carry (k : ShiftOp) (v : Byte) : Bool :=
  match k with
  | .rlc => v.getLsbD 7
  | .rrc => v.getLsbD 0
  | .rl => v.getLsbD 7
  | .rr => v.getLsbD 0
  | .sla => v.getLsbD 7
  | .sra => v.getLsbD 0
  | .swap => false
  | .srl => v.getLsbD 0

/-- R434: the flags of every CB-page rotate, shift and SWAP. -/
def shift8Flags (k : ShiftOp) (v : Byte) (cin : Bool) : Flags :=
  { z := decide (shift8Result k v cin = 0x00#8), n := false, h := false, c := shift8Carry k v }

/-- R430 to R433: the flags of the accumulator rotates, whose Z is always 0. -/
def accRotateFlags (c : Bool) : Flags := { z := false, n := false, h := false, c := c }

/-- R451: the flags of BIT; C is unchanged. -/
def bitFlags (f : Flags) (v : Byte) (b : Fin 8) : Flags :=
  { f with z := !v.getLsbD b.val, n := false, h := true }

/-- R453: `v & ~(1 << b)`. -/
def clearBit (v : Byte) (b : Fin 8) : Byte := v &&& ~~~(1#8 <<< b.val)

/-- R455: `v | (1 << b)`. -/
def setBit (v : Byte) (b : Fin 8) : Byte := v ||| (1#8 <<< b.val)

end Sys2Proof.Machine
end

