-- ==== Sys2Proof/Machine/Render.lean ====
section
/-!
DEFINITION. Drawing one visible line (62_ppu.md section 3): the OAM scan, the background, the window, the sprites and
their mixing, from VRAM, OAM and the PPU's registers as they are at the render point (R610).
-/
namespace Sys2Proof.Machine

/-- R611: one OAM entry. -/
structure Sprite where
  y : Nat
  x : Nat
  tile : Byte
  attr : Byte
  deriving DecidableEq, Repr

/-- R611: OAM entry i is four bytes from offset 4i. -/
def Sprite.ofOam (oam : Memory) (i : Nat) : Sprite :=
  { y := (Store.read oam (4 * i)).toNat, x := (Store.read oam (4 * i + 1)).toNat
    tile := Store.read oam (4 * i + 2), attr := Store.read oam (4 * i + 3) }

/-- R611: the sprite height, from LCDC[2]. -/
def Ppu.spriteHeight (p : Ppu) : Nat := if p.lcdc.getLsbD 2 then 16 else 8

/-- R611: whether the sprite is on line LY. -/
def Ppu.onLine (p : Ppu) (s : Sprite) : Bool :=
  decide (s.y ≤ p.ly.toNat + 16) && decide (p.ly.toNat + 16 < s.y + p.spriteHeight)

/-- R611: the OAM scan: the first ten entries on the line, in OAM order; none when LCDC[1] is 0. -/
def Ppu.scanOam (p : Ppu) (oam : Memory) : List Sprite :=
  if p.lcdc.getLsbD 1 then
    (((List.range Config.oamEntries).map (Sprite.ofOam oam)).filter p.onLine).take Config.spritesPerLine
  else []

/-- R614: `TilePixel(base, row, col)`, with `base` an offset in VRAM. -/
def tilePixel (vram : Memory) (base row col : Nat) : BitVec 2 :=
  let lo := Store.read vram (base + 2 * row)
  let hi := Store.read vram (base + 2 * row + 1)
  BitVec.ofBool (hi.getLsbD (7 - col)) ++ BitVec.ofBool (lo.getLsbD (7 - col))

/-- R614: `TileAddr(tidx)` as an offset in VRAM: unsigned from 0x8000 when LCDC[4] is 1, signed from 0x9000 when it
is 0. -/
def Ppu.tileBase (p : Ppu) (tidx : Byte) : Nat :=
  if p.lcdc.getLsbD 4 then tidx.toNat * 16 else (0x1000 + tidx.toInt * 16).toNat

/-- R612, R613: the colour index at (col, row) of the tile map that starts at offset `map` in VRAM. -/
def Ppu.mapPixel (p : Ppu) (vram : Memory) (map row col : Nat) : BitVec 2 :=
  let tidx := Store.read vram (map + row / 8 * 32 + col / 8)
  tilePixel vram (p.tileBase tidx) (row % 8) (col % 8)

/-- R66: the VRAM offset of tile map 0x9800 or 0x9C00. -/
def mapOffset (second : Bool) : Nat := if second then 0x1C00 else 0x1800

/-- R612: the background's colour index at screen x; `none` when the background is off. -/
def Ppu.backgroundPixel (p : Ppu) (vram : Memory) (x : Nat) : Option (BitVec 2) :=
  if p.lcdc.getLsbD 0 then
    some (p.mapPixel vram (mapOffset (p.lcdc.getLsbD 3)) ((p.scy.toNat + p.ly.toNat) % 256) ((p.scx.toNat + x) % 256))
  else none

/-- R613: whether the window is visible on line LY. -/
def Ppu.windowVisible (p : Ppu) : Bool :=
  p.lcdc.getLsbD 5 && decide (p.wy.toNat ≤ p.ly.toNat) && decide (p.wx.toNat ≤ 166)

/-- R613: whether the window covers screen x. -/
def Ppu.windowCovers (p : Ppu) (x : Nat) : Bool := p.windowVisible && decide (p.wx.toNat ≤ x + 7)

/-- R612, R613: the colour index of the background or of the window over it; `none` is the blank pixel. -/
def Ppu.backPixel (p : Ppu) (vram : Memory) (x : Nat) : Option (BitVec 2) :=
  if p.windowCovers x then
    some (p.mapPixel vram (mapOffset (p.lcdc.getLsbD 6)) p.windowLine.toNat (x + 7 - p.wx.toNat))
  else p.backgroundPixel vram x

/-- R615: whether the sprite covers screen x. -/
def Sprite.covers (s : Sprite) (x : Nat) : Bool := decide (s.x ≤ x + 8) && decide (x + 8 < s.x + 8)

/-- R615: the sprite's colour index at screen x, for a sprite on the line that covers x. -/
def Ppu.spritePixel (p : Ppu) (vram : Memory) (s : Sprite) (x : Nat) : BitVec 2 :=
  let row := p.ly.toNat + 16 - s.y
  let row := if s.attr.getLsbD 6 then p.spriteHeight - 1 - row else row
  let col := x + 8 - s.x
  let col := if s.attr.getLsbD 5 then 7 - col else col
  let tile := if p.lcdc.getLsbD 2 then s.tile &&& 0xFE#8 else s.tile
  tilePixel vram (tile.toNat * 16) row col

/-- R616: of two candidates, the one that wins; `best` stands earlier in OAM. -/
def betterSprite (best : Option (Sprite × BitVec 2)) (s : Sprite × BitVec 2) : Option (Sprite × BitVec 2) :=
  match best with
  | none => some s
  | some b => if s.1.x < b.1.x then some s else some b

/-- R616: the winning sprite at screen x with its colour index, of the line's sprites in OAM order: transparent pixels
are dropped first, then the lowest x wins, and of equal x the lowest OAM index. -/
def Ppu.winningSprite (p : Ppu) (vram : Memory) (sprites : List Sprite) (x : Nat) : Option (Sprite × BitVec 2) :=
  let drawn := (sprites.filter (fun s => s.covers x)).map (fun s => (s, p.spritePixel vram s x))
  (drawn.filter (fun c => decide (c.2 ≠ 0#2))).foldl betterSprite none

/-- R70, R617: the shade a palette gives a colour index. -/
def shadeOf (palette : Byte) (index : BitVec 2) : BitVec 2 := palette.extractLsb' (2 * index.toNat) 2

/-- R617: the shade of a background or window pixel; a blank pixel is shade 0. -/
def Ppu.backShade (p : Ppu) : Option (BitVec 2) → BitVec 2
  | some index => shadeOf p.bgp index
  | none => 0#2

/-- R615: the palette of a sprite, from attribute bit 4. -/
def Ppu.spritePalette (p : Ppu) (s : Sprite) : Byte := if s.attr.getLsbD 4 then p.obp1 else p.obp0

/-- R616, R617: the shade at screen x. -/
def Ppu.pixel (p : Ppu) (vram : Memory) (sprites : List Sprite) (x : Nat) : BitVec 2 :=
  let back := p.backPixel vram x
  match p.winningSprite vram sprites x with
  | none => p.backShade back
  | some (s, index) =>
    if !s.attr.getLsbD 7 || decide (back.getD 0#2 = 0#2) then shadeOf (p.spritePalette s) index
    else p.backShade back

/-- R610: write a line's pixels, `x = 0..159`, to the framebuffer. -/
def Ppu.drawLine (p : Ppu) (vram : Memory) (sprites : List Sprite) : Framebuffer :=
  (List.range Config.screenWidth).foldl
    (fun fb x => Store.write fb (p.ly.toNat * Config.screenWidth + x) (p.pixel vram sprites x)) p.framebuffer

/-- R610, R613: `RenderLine(LY)`: draw the line, then advance the window's own line counter if the window was
visible. -/
def Ppu.renderLine (p : Ppu) (vram oam : Memory) : Ppu :=
  { p with
    framebuffer := p.drawLine vram (p.scanOam oam)
    windowLine := if p.windowVisible then p.windowLine + 1#8 else p.windowLine }

end Sys2Proof.Machine
end

