-- ==== Sys2Proof/Machine/Ppu.lean ====
section
/-!
DEFINITION. The PPU's mode state machine, its STAT line, its dot tick and the effects of CPU writes to LCDC and STAT
(62_ppu.md sections 1 and 2).
-/
namespace Sys2Proof.Machine

/-- R66: LCDC[7], the LCD enable. -/
def Ppu.lcdOn (p : Ppu) : Bool := p.lcdc.getLsbD 7

/-- R67: the number of a mode, as STAT[1:0] shows it. -/
def PpuMode.number : PpuMode → BitVec 2
  | .hblank => 0#2
  | .vblank => 1#2
  | .oamScan => 2#2
  | .drawing => 3#2

/-- R601: `ModeOf(LY, dot)`. -/
def modeOf (ly dot : Nat) : PpuMode :=
  if Config.visibleLines ≤ ly then .vblank
  else if dot < Config.oamScanDots then .oamScan
  else if dot < Config.oamScanDots + Config.drawingDots then .drawing
  else .hblank

/-- R607: `StatLine()`. `statSelect` holds STAT[6:3], so its bits 3, 0, 1 and 2 are STAT[6], STAT[3], STAT[4] and
STAT[5]. -/
def Ppu.statLevel (p : Ppu) : Bool :=
  (p.statSelect.getLsbD 3 && decide (p.ly = p.lyc))
  || (p.statSelect.getLsbD 0 && decide (p.mode = .hblank))
  || (p.statSelect.getLsbD 1 && decide (p.mode = .vblank))
  || (p.statSelect.getLsbD 2 && decide (p.mode = .oamScan))

/-- R609: a read of STAT. -/
def Ppu.readStat (p : Ppu) : Byte :=
  1#1 ++ p.statSelect ++ BitVec.ofBool (decide (p.ly = p.lyc)) ++ p.mode.number

/-- R609: a write of STAT stores bits 6..3. -/
def Ppu.writeStat (p : Ppu) (v : Byte) : Ppu := { p with statSelect := v.extractLsb' 3 4 }

/-- R602: a write of LCDC, which switches the PPU off and on by bit 7. -/
def Ppu.writeLcdc (p : Ppu) (v : Byte) : Ppu :=
  let stored := { p with lcdc := v }
  if p.lcdOn && !v.getLsbD 7 then
    { stored with ly := 0x00#8, dot := 0, mode := .hblank, statLine := false, lcdOffDots := 0 }
  else if !p.lcdOn && v.getLsbD 7 then
    { stored with ly := 0x00#8, dot := 0, mode := .oamScan, windowLine := 0x00#8, lcdOffDots := 0 }
  else stored

/-- R603: advance the dot, and at the end of a line LY; a new frame restarts the window's line counter. -/
def Ppu.advanceDot (p : Ppu) : Ppu :=
  if p.dot + 1 = Config.dotsPerLine then
    let ly : Byte := BitVec.ofNat 8 ((p.ly.toNat + 1) % Config.linesPerFrame)
    { p with dot := 0, ly := ly, windowLine := if ly = 0x00#8 then 0x00#8 else p.windowLine }
  else { p with dot := p.dot + 1 }

/-- R603: enter a new mode: HBlank draws the line (R610), Vblank ends the frame (R606). -/
def Ppu.enterMode (p : Ppu) (vram oam : Memory) (m : PpuMode) : Ppu :=
  let p := { p with mode := m }
  match m with
  | .hblank => p.renderLine vram oam
  | .vblank => { p with frameReady := true }
  | .oamScan => p
  | .drawing => p

/-- R603: the mode change of a dot, for a PPU whose dot and line have been advanced. -/
def Ppu.changeMode (p : Ppu) (vram oam : Memory) : Ppu :=
  let m := modeOf p.ly.toNat p.dot
  if m = p.mode then p else p.enterMode vram oam m

/-- R604: `LcdOffTick()`. -/
def Ppu.lcdOffTick (p : Ppu) : Ppu :=
  if p.lcdOffDots + 1 = Config.dotsPerFrame then { p with lcdOffDots := 0, frameReady := true }
  else { p with lcdOffDots := p.lcdOffDots + 1 }

/-- R603, R606: whether this dot enters mode 1, which requests the Vblank interrupt. -/
def Ppu.entersVblank (p : Ppu) : Bool :=
  let q := p.advanceDot
  p.lcdOn && decide (modeOf q.ly.toNat q.dot = .vblank) && decide (p.mode ≠ .vblank)

/-- R603, R608: this dot's PPU before `UpdateStatLine()`. -/
def Ppu.beforeStat (p : Ppu) (vram oam : Memory) : Ppu := p.advanceDot.changeMode vram oam

/-- R608: whether the STAT line rises in this dot, which requests the LCD interrupt. -/
def Ppu.statRises (p : Ppu) (vram oam : Memory) : Bool :=
  p.lcdOn && !p.statLine && (p.beforeStat vram oam).statLevel

/-- R603, R604: `PpuTick1()`; the interrupt requests it makes are `Ppu.entersVblank` and `Ppu.statRises`. -/
def Ppu.tick (p : Ppu) (vram oam : Memory) : Ppu :=
  if p.lcdOn then
    let q := p.beforeStat vram oam
    { q with statLine := q.statLevel }
  else p.lcdOffTick

end Sys2Proof.Machine
end

