-- ==== Sys2Proof/Machine/Timer.lean ====
section
/-!
DEFINITION. The timer (61_timer.md): DIV, TIMA, TMA and TAC by the falling-edge scheme, its T-cycle tick and the
effects of CPU writes to its registers.
-/
namespace Sys2Proof.Machine

/-- R573: the bit of `div_counter` that TAC[1:0] selects. -/
def Timer.selectedBit (tac : BitVec 3) : Nat :=
  match (tac.extractLsb' 0 2).toNat with
  | 0 => 9
  | 1 => 3
  | 2 => 5
  | _ => 7

/-- R573: `TimerSignal()`. -/
def Timer.signal (t : Timer) : Bool :=
  t.tac.getLsbD 2 && t.divCounter.getLsbD (Timer.selectedBit t.tac)

/-- R574: `IncTIMA()`. -/
def Timer.incTima (t : Timer) : Timer :=
  if t.tima = 0xFF#8 then { t with tima := 0x00#8, reloadDelay := Config.timaReloadDelay }
  else { t with tima := t.tima + 1#8 }

/-- R570 to R572: increment TIMA when the signal was 1 and, in `t`, is 0. -/
def Timer.onFallingEdge (old : Bool) (t : Timer) : Timer :=
  if old && !t.signal then t.incTima else t

/-- R571: a CPU write to DIV, whatever the value. -/
def Timer.writeDiv (t : Timer) : Timer :=
  Timer.onFallingEdge t.signal { t with divCounter := 0x0000#16 }

/-- R572: a CPU write to TAC. -/
def Timer.writeTac (t : Timer) (v : Byte) : Timer :=
  Timer.onFallingEdge t.signal { t with tac := v.extractLsb' 0 3 }

/-- R575: a CPU write to TIMA cancels a pending reload. -/
def Timer.writeTima (t : Timer) (v : Byte) : Timer :=
  { t with tima := v, reloadDelay := 0 }

/-- R576: a CPU write to TMA. -/
def Timer.writeTma (t : Timer) (v : Byte) : Timer := { t with tma := v }

/-- R570: whether the pending reload happens at the start of this tick; it is what requests the Timer interrupt. -/
def Timer.reloads (t : Timer) : Bool := decide (t.reloadDelay = 1)

/-- R570: the reload part of a tick. -/
def Timer.countReload (t : Timer) : Timer :=
  if t.reloads then { t with reloadDelay := 0, tima := t.tma }
  else { t with reloadDelay := t.reloadDelay - 1 }

/-- R570: the counter part of a tick. -/
def Timer.countDiv (t : Timer) : Timer :=
  Timer.onFallingEdge t.signal { t with divCounter := t.divCounter + 1#16 }

/-- R570: `TimerTick1()`; the interrupt request it makes is `Timer.reloads`. -/
def Timer.tick (t : Timer) : Timer := t.countReload.countDiv

end Sys2Proof.Machine
end

