-- ==== Sys2Proof/Machine/Ops.lean ====
section
/-!
DEFINITION. The named operations over memory and control state that every instruction is made of: the bus with its
address decoder and the I/O register map (R150 to R170, R660 to R669), PUSH and POP of 16-bit values (R11), the
interrupt entry (R532) with its return (R479), and the one synchronous exception (R520).
-/
namespace Sys2Proof.Machine

/-! ### The address decoder -/

/-- R660: the registers of the I/O range. `sound` is R668's range, `unmapped` R669's addresses. -/
inductive IoReg where
  | p1 | sb | sc | div | tima | tma | tac | intFlag | sound
  | lcdc | stat | scy | scx | ly | lyc | dma | bgp | obp0 | obp1 | wy | wx | unmapped
  deriving DecidableEq, Repr

/-- R660: the register at offset `off` of the I/O range 0xFF00-0xFF7F. -/
def ioRegAt (off : Nat) : IoReg :=
  if off = 0x00 then .p1
  else if off = 0x01 then .sb
  else if off = 0x02 then .sc
  else if off = 0x04 then .div
  else if off = 0x05 then .tima
  else if off = 0x06 then .tma
  else if off = 0x07 then .tac
  else if off = 0x0F then .intFlag
  else if off = 0x40 then .lcdc
  else if off = 0x41 then .stat
  else if off = 0x42 then .scy
  else if off = 0x43 then .scx
  else if off = 0x44 then .ly
  else if off = 0x45 then .lyc
  else if off = 0x46 then .dma
  else if off = 0x47 then .bgp
  else if off = 0x48 then .obp0
  else if off = 0x49 then .obp1
  else if off = 0x4A then .wy
  else if off = 0x4B then .wx
  else if 0x10 ≤ off ∧ off ≤ 0x3F then .sound
  else .unmapped

/-- R151: the region an address belongs to, with the offset in its array. The two cartridge windows keep the address,
which the mapper reads (R210). -/
inductive Region where
  | cartRom (a : Word)
  | vram (off : Nat)
  | cartRam (a : Word)
  | wram (off : Nat)
  | oam (off : Nat)
  | prohibited
  | io (r : IoReg)
  | hram (off : Nat)
  | intEnable
  deriving DecidableEq, Repr

/-- R151: the address decoder. The echo range is work RAM 0x2000 below (R156). -/
def regionOf (a : Word) : Region :=
  if a.toNat < 0x8000 then .cartRom a
  else if a.toNat < 0xA000 then .vram (a.toNat - 0x8000)
  else if a.toNat < 0xC000 then .cartRam a
  else if a.toNat < 0xE000 then .wram (a.toNat - 0xC000)
  else if a.toNat < 0xFE00 then .wram (a.toNat - 0xE000)
  else if a.toNat < 0xFEA0 then .oam (a.toNat - 0xFE00)
  else if a.toNat < 0xFF00 then .prohibited
  else if a.toNat < 0xFF80 then .io (ioRegAt (a.toNat % 0x100))
  else if a.toNat < 0xFFFF then .hram (a.toNat - 0xFF80)
  else .intEnable

/-! ### Reads -/

/-- R661: the joypad lines, active-low, of the selected groups. -/
def Joypad.lines (j : Joypad) : BitVec 4 :=
  (if j.selDirs then 0xF#4 else ~~~(j.buttons.extractLsb' 0 4))
  &&& (if j.selButtons then 0xF#4 else ~~~(j.buttons.extractLsb' 4 4))

/-- R661: a read of P1. -/
def Joypad.readP1 (j : Joypad) : Byte :=
  0b11#2 ++ BitVec.ofBool j.selButtons ++ BitVec.ofBool j.selDirs ++ j.lines

/-- R60: a read of SC, bits 6..1 reading 1. -/
def Serial.readSc (r : Serial) : Byte :=
  BitVec.ofBool r.transferStart ++ 0b111111#6 ++ BitVec.ofBool r.clockSelect

/-- R660: `IoRead`. -/
def State.ioRead (s : State) (r : IoReg) : Byte :=
  match r with
  | .p1 => s.joypad.readP1
  | .sb => s.serial.sb
  | .sc => s.serial.readSc
  | .div => highByte s.timer.divCounter
  | .tima => s.timer.tima
  | .tma => s.timer.tma
  | .tac => 0b11111#5 ++ s.timer.tac
  | .intFlag => 0b111#3 ++ s.intFlag
  | .sound => 0xFF#8
  | .lcdc => s.ppu.lcdc
  | .stat => s.ppu.readStat
  | .scy => s.ppu.scy
  | .scx => s.ppu.scx
  | .ly => s.ppu.ly
  | .lyc => s.ppu.lyc
  | .dma => s.dma
  | .bgp => s.ppu.bgp
  | .obp0 => s.ppu.obp0
  | .obp1 => s.ppu.obp1
  | .wy => s.ppu.wy
  | .wx => s.ppu.wx
  | .unmapped => 0xFF#8

/-- R151: a read of a region. -/
def State.readRegion (s : State) (g : Region) : Byte :=
  match g with
  | .cartRom a => s.cart.readRom a
  | .vram off => Store.read s.vram off
  | .cartRam a => s.cart.readRam a
  | .wram off => Store.read s.wram off
  | .oam off => Store.read s.oam off
  | .prohibited => 0xFF#8
  | .io r => s.ioRead r
  | .hram off => Store.read s.hram off
  | .intEnable => 0b111#3 ++ s.intEnable

/-- R151: `MemRead(a, 1)`. It changes no state (R164). -/
def State.read (s : State) (a : Word) : Byte := s.readRegion (regionOf a)

/-! ### Writes -/

/-- R211, R212, R213: a write to 0x0000-0x7FFF. An MBC3 write that latches the RTC takes the host's next sample
(R226). -/
def State.writeCartRom (s : State) (a : Word) (v : Byte) : State :=
  match s.cart.mapper with
  | .romOnly => s
  | .mbc1 r => { s with cart := { s.cart with mapper := .mbc1 (r.write a v) } }
  | .mbc3 r =>
    { s with
      cart := { s.cart with mapper := .mbc3 (r.write a v (Config.hostRtcSample s.host.rtcSamples)) }
      host := { s.host with rtcSamples := if r.latches a v then s.host.rtcSamples + 1 else s.host.rtcSamples } }

/-- R213, R215, R217: a write to 0xA000-0xBFFF. An RTC write is an output to the host (R227). -/
def State.writeCartRam (s : State) (a : Word) (v : Byte) : State :=
  match s.cart.ramWindow a with
  | .closed => s
  | .sram index => { s with cart := { s.cart with sram := Store.write s.cart.sram index v } }
  | .rtc register =>
    { s with host := { s.host with rtcWrites := s.host.rtcWrites ++ [{ register := register, value := v }] } }

/-- R170: one byte of the OAM copy, `oam[i] <- MemRead((v << 8) + i, 1)`. -/
def State.dmaByte (v : Byte) (s : State) (i : Nat) : State :=
  { s with oam := Store.write s.oam i (s.read (joinBytes v (BitVec.ofNat 8 i))) }

/-- R170: a write to DMA stores the value and copies 160 bytes to OAM, in order, inside the same write. -/
def State.writeDma (s : State) (v : Byte) : State :=
  (List.range Config.oamBytes).foldl (State.dmaByte v) { s with dma := v }

/-- R660: `IoWrite`. -/
def State.ioWrite (s : State) (r : IoReg) (v : Byte) : State :=
  match r with
  | .p1 => { s with joypad := { s.joypad with selButtons := v.getLsbD 5, selDirs := v.getLsbD 4 } }
  | .sb => { s with serial := { s.serial with sb := v } }
  | .sc => { s with serial := { s.serial with transferStart := v.getLsbD 7, clockSelect := v.getLsbD 0 } }
  | .div => { s with timer := s.timer.writeDiv }
  | .tima => { s with timer := s.timer.writeTima v }
  | .tma => { s with timer := s.timer.writeTma v }
  | .tac => { s with timer := s.timer.writeTac v }
  | .intFlag => { s with intFlag := v.extractLsb' 0 5 }
  | .sound => s
  | .lcdc => { s with ppu := s.ppu.writeLcdc v }
  | .stat => { s with ppu := s.ppu.writeStat v }
  | .scy => { s with ppu := { s.ppu with scy := v } }
  | .scx => { s with ppu := { s.ppu with scx := v } }
  | .ly => s
  | .lyc => { s with ppu := { s.ppu with lyc := v } }
  | .dma => s.writeDma v
  | .bgp => { s with ppu := { s.ppu with bgp := v } }
  | .obp0 => { s with ppu := { s.ppu with obp0 := v } }
  | .obp1 => { s with ppu := { s.ppu with obp1 := v } }
  | .wy => { s with ppu := { s.ppu with wy := v } }
  | .wx => { s with ppu := { s.ppu with wx := v } }
  | .unmapped => s

/-- R151: a write to a region. -/
def State.writeRegion (s : State) (g : Region) (v : Byte) : State :=
  match g with
  | .cartRom a => s.writeCartRom a v
  | .vram off => { s with vram := Store.write s.vram off v }
  | .cartRam a => s.writeCartRam a v
  | .wram off => { s with wram := Store.write s.wram off v }
  | .oam off => { s with oam := Store.write s.oam off v }
  | .prohibited => s
  | .io r => s.ioWrite r v
  | .hram off => { s with hram := Store.write s.hram off v }
  | .intEnable => { s with intEnable := v.extractLsb' 0 5 }

/-- R151: `MemWrite(a, 1, v)`. -/
def State.write (s : State) (a : Word) (v : Byte) : State := s.writeRegion (regionOf a) v

/-! ### Sixteen-bit values -/

/-- R320, R160: store a 16-bit value at an address, low byte first. -/
def State.write16 (s : State) (a v : Word) : State := (s.write a (lowByte v)).write (a + 1#16) (highByte v)

/-- R11: `Push16(v)`: the high byte at SP-1 first, then the low byte at SP-2; SP is decremented before each write. -/
def State.push16 (s : State) (v : Word) : State :=
  let s := s.setSp (s.sp - 1#16)
  let s := s.write s.sp (highByte v)
  let s := s.setSp (s.sp - 1#16)
  s.write s.sp (lowByte v)

/-- R11: the value `Pop16()` returns: the low byte at SP, the high byte at SP+1. -/
def State.top16 (s : State) : Word := joinBytes (s.read (s.sp + 1#16)) (s.read s.sp)

/-- R11: SP after `Pop16()`. -/
def State.dropTop16 (s : State) : State := s.setSp (s.sp + 2#16)

/-! ### Exceptions and interrupts -/

/-- R522: the five interrupt sources, in the order of their bit. -/
inductive Interrupt where
  | vblank | lcd | timer | serial | joypad
  deriving DecidableEq, Repr

/-- R522: the bit of a source in IF and IE. -/
def Interrupt.bit : Interrupt → Nat
  | .vblank => 0
  | .lcd => 1
  | .timer => 2
  | .serial => 3
  | .joypad => 4

/-- R526: `vector(i) = 0x0040 + 8 x i`. -/
def Interrupt.vector (i : Interrupt) : Word := 0x0040#16 + BitVec.ofNat 16 (8 * i.bit)

/-- R523: the set that holds one request. -/
def Interrupt.mask (i : Interrupt) : BitVec 5 := 1#5 <<< i.bit

/-- R523: a device's request, `IF[i] <- 1` when `raised`. -/
def State.request (s : State) (i : Interrupt) (raised : Bool) : State :=
  { s with intFlag := if raised then s.intFlag ||| i.mask else s.intFlag }

/-- R524: the pending set, `IE[4:0] & IF[4:0]`. -/
def State.pending (s : State) : BitVec 5 := s.intEnable &&& s.intFlag

/-- R525: the lowest set bit of a pending set. -/
def lowestPending (p : BitVec 5) : Option Interrupt :=
  [Interrupt.vblank, .lcd, .timer, .serial, .joypad].find? (fun i => p.getLsbD i.bit)

/-- R532: `Service(i)`, the interrupt entry: push PC, clear IF[i], IME and ei_delay, and jump to the vector. -/
def State.service (s : State) (i : Interrupt) : State :=
  let s := s.push16 s.pc
  let s := { s with intFlag := s.intFlag &&& ~~~i.mask }
  ((s.setIme false).setEiDelay 0).setPc i.vector

/-- R477: `PC <- Pop16()`. -/
def State.popPc (s : State) : State := s.dropTop16.setPc s.top16

/-- R479, R534: the return from an interrupt handler: pop PC and set IME at once; nothing else is restored. -/
def State.returnFromInterrupt (s : State) : State := s.popPc.setIme true

/-- R520: `raise IllegalOpcode(pc, op)`: record the fault and lock the CPU; nothing is pushed and no vector is
taken. -/
def State.raiseIllegalOpcode (s : State) (pc : Word) (op : Byte) : State :=
  { s with cpu := { s.cpu with faultRecord := some { pc := pc, op := op }, mode := .locked } }

end Sys2Proof.Machine
end

