-- ==== Sys2Proof/Machine/Alu16.lean ====
section
/-!
DEFINITION. Sixteen-bit arithmetic (42_alu16.md, R400 to R405).
-/
namespace Sys2Proof.Machine

/-! ### Shared operations -/

/-- R400: ADD HL,rr. -/
def addToHl (rr : Reg16) (s : State) : Result :=
  .next (((s.setHl (s.hl + s.reg16 rr)).setFlags (addHlFlags s.flags s.hl (s.reg16 rr))).took 8)

/-- R401: INC rr. -/
def incReg16 (rr : Reg16) (s : State) : Result := .next ((s.setReg16 rr (s.reg16 rr + 1#16)).took 8)

/-- R402: DEC rr. -/
def decReg16 (rr : Reg16) (s : State) : Result := .next ((s.setReg16 rr (s.reg16 rr - 1#16)).took 8)

/-! ### The instructions -/

/-- R400: ADD HL,BC. -/
def execAdd_HL_BC (s : State) : Result := addToHl .bc s

/-- R400: ADD HL,DE. -/
def execAdd_HL_DE (s : State) : Result := addToHl .de s

/-- R400: ADD HL,HL. -/
def execAdd_HL_HL (s : State) : Result := addToHl .hl s

/-- R400: ADD HL,SP. -/
def execAdd_HL_SP (s : State) : Result := addToHl .sp s

/-- R401: INC BC. -/
def execInc_BC (s : State) : Result := incReg16 .bc s

/-- R401: INC DE. -/
def execInc_DE (s : State) : Result := incReg16 .de s

/-- R401: INC HL. -/
def execInc_HL (s : State) : Result := incReg16 .hl s

/-- R401: INC SP. -/
def execInc_SP (s : State) : Result := incReg16 .sp s

/-- R402: DEC BC. -/
def execDec_BC (s : State) : Result := decReg16 .bc s

/-- R402: DEC DE. -/
def execDec_DE (s : State) : Result := decReg16 .de s

/-- R402: DEC HL. -/
def execDec_HL (s : State) : Result := decReg16 .hl s

/-- R402: DEC SP. -/
def execDec_SP (s : State) : Result := decReg16 .sp s

/-- R404: ADD SP,e. -/
def execAdd_SP_e (e : Byte) (s : State) : Result := .next (((s.setSp (spPlusE s.sp e)).setFlags (spPlusEFlags s.sp e)).took 16)

/-- R405: LD HL,SP+e. -/
def execLd_HL_SPe (e : Byte) (s : State) : Result := .next (((s.setHl (spPlusE s.sp e)).setFlags (spPlusEFlags s.sp e)).took 12)

end Sys2Proof.Machine
end

