-- ==== Sys2Proof/Machine/Alu8.lean ====
section
/-!
DEFINITION. Eight-bit arithmetic and logic (41_alu8.md, R350 to R383).
-/
namespace Sys2Proof.Machine

/-! ### Shared operations -/

/-- R350, R351: an 8-bit ALU instruction on A and an operand. -/
def aluOn (op : AluOp) (v : Byte) (cycles : Nat) (s : State) : Result :=
  let a := s.reg8 .a
  let t := s.setFlags (alu8Flags op a v s.flags.c)
  .next ((if aluWritesA op then t.setReg8 .a (alu8Result op a v s.flags.c) else t).took cycles)

/-- R351: the register form, 4 cycles. -/
def aluReg (op : AluOp) (r : Reg8) (s : State) : Result := aluOn op (s.reg8 r) 4 s

/-- R351: the (HL) form, 8 cycles. -/
def aluAtHl (op : AluOp) (s : State) : Result := aluOn op (s.read s.hl) 8 s

/-- R351: the immediate form, 8 cycles. -/
def aluImm (op : AluOp) (n : Byte) (s : State) : Result := aluOn op n 8 s

/-- R376: INC r. -/
def incReg (r : Reg8) (s : State) : Result :=
  .next (((s.setReg8 r (s.reg8 r + 1#8)).setFlags (incFlags s.flags (s.reg8 r))).took 4)

/-- R378: DEC r. -/
def decReg (r : Reg8) (s : State) : Result :=
  .next (((s.setReg8 r (s.reg8 r - 1#8)).setFlags (decFlags s.flags (s.reg8 r))).took 4)

/-- R380, R381: an adjustment of A and the flags, 4 cycles. -/
def adjustA (a : Byte) (f : Flags) (s : State) : Result := .next (((s.setReg8 .a a).setFlags f).took 4)

/-! ### The instructions -/

/-- R352: ADD A,B. -/
def execAdd_A_B (s : State) : Result := aluReg .add .b s

/-- R352: ADD A,C. -/
def execAdd_A_C (s : State) : Result := aluReg .add .c s

/-- R352: ADD A,D. -/
def execAdd_A_D (s : State) : Result := aluReg .add .d s

/-- R352: ADD A,E. -/
def execAdd_A_E (s : State) : Result := aluReg .add .e s

/-- R352: ADD A,H. -/
def execAdd_A_H (s : State) : Result := aluReg .add .h s

/-- R352: ADD A,L. -/
def execAdd_A_L (s : State) : Result := aluReg .add .l s

/-- R352: ADD A,A. -/
def execAdd_A_A (s : State) : Result := aluReg .add .a s

/-- R353: ADD A,(HL). -/
def execAdd_A_atHL (s : State) : Result := aluAtHl .add s

/-- R354: ADD A,n. -/
def execAdd_A_n (n : Byte) (s : State) : Result := aluImm .add n s

/-- R355: ADC A,B. -/
def execAdc_A_B (s : State) : Result := aluReg .adc .b s

/-- R355: ADC A,C. -/
def execAdc_A_C (s : State) : Result := aluReg .adc .c s

/-- R355: ADC A,D. -/
def execAdc_A_D (s : State) : Result := aluReg .adc .d s

/-- R355: ADC A,E. -/
def execAdc_A_E (s : State) : Result := aluReg .adc .e s

/-- R355: ADC A,H. -/
def execAdc_A_H (s : State) : Result := aluReg .adc .h s

/-- R355: ADC A,L. -/
def execAdc_A_L (s : State) : Result := aluReg .adc .l s

/-- R355: ADC A,A. -/
def execAdc_A_A (s : State) : Result := aluReg .adc .a s

/-- R356: ADC A,(HL). -/
def execAdc_A_atHL (s : State) : Result := aluAtHl .adc s

/-- R357: ADC A,n. -/
def execAdc_A_n (n : Byte) (s : State) : Result := aluImm .adc n s

/-- R358: SUB B. -/
def execSub_B (s : State) : Result := aluReg .sub .b s

/-- R358: SUB C. -/
def execSub_C (s : State) : Result := aluReg .sub .c s

/-- R358: SUB D. -/
def execSub_D (s : State) : Result := aluReg .sub .d s

/-- R358: SUB E. -/
def execSub_E (s : State) : Result := aluReg .sub .e s

/-- R358: SUB H. -/
def execSub_H (s : State) : Result := aluReg .sub .h s

/-- R358: SUB L. -/
def execSub_L (s : State) : Result := aluReg .sub .l s

/-- R358: SUB A. -/
def execSub_A (s : State) : Result := aluReg .sub .a s

/-- R359: SUB (HL). -/
def execSub_atHL (s : State) : Result := aluAtHl .sub s

/-- R360: SUB n. -/
def execSub_n (n : Byte) (s : State) : Result := aluImm .sub n s

/-- R361: SBC A,B. -/
def execSbc_A_B (s : State) : Result := aluReg .sbc .b s

/-- R361: SBC A,C. -/
def execSbc_A_C (s : State) : Result := aluReg .sbc .c s

/-- R361: SBC A,D. -/
def execSbc_A_D (s : State) : Result := aluReg .sbc .d s

/-- R361: SBC A,E. -/
def execSbc_A_E (s : State) : Result := aluReg .sbc .e s

/-- R361: SBC A,H. -/
def execSbc_A_H (s : State) : Result := aluReg .sbc .h s

/-- R361: SBC A,L. -/
def execSbc_A_L (s : State) : Result := aluReg .sbc .l s

/-- R361: SBC A,A. -/
def execSbc_A_A (s : State) : Result := aluReg .sbc .a s

/-- R362: SBC A,(HL). -/
def execSbc_A_atHL (s : State) : Result := aluAtHl .sbc s

/-- R363: SBC A,n. -/
def execSbc_A_n (n : Byte) (s : State) : Result := aluImm .sbc n s

/-- R364: AND B. -/
def execAnd_B (s : State) : Result := aluReg .and .b s

/-- R364: AND C. -/
def execAnd_C (s : State) : Result := aluReg .and .c s

/-- R364: AND D. -/
def execAnd_D (s : State) : Result := aluReg .and .d s

/-- R364: AND E. -/
def execAnd_E (s : State) : Result := aluReg .and .e s

/-- R364: AND H. -/
def execAnd_H (s : State) : Result := aluReg .and .h s

/-- R364: AND L. -/
def execAnd_L (s : State) : Result := aluReg .and .l s

/-- R364: AND A. -/
def execAnd_A (s : State) : Result := aluReg .and .a s

/-- R365: AND (HL). -/
def execAnd_atHL (s : State) : Result := aluAtHl .and s

/-- R366: AND n. -/
def execAnd_n (n : Byte) (s : State) : Result := aluImm .and n s

/-- R367: XOR B. -/
def execXor_B (s : State) : Result := aluReg .xor .b s

/-- R367: XOR C. -/
def execXor_C (s : State) : Result := aluReg .xor .c s

/-- R367: XOR D. -/
def execXor_D (s : State) : Result := aluReg .xor .d s

/-- R367: XOR E. -/
def execXor_E (s : State) : Result := aluReg .xor .e s

/-- R367: XOR H. -/
def execXor_H (s : State) : Result := aluReg .xor .h s

/-- R367: XOR L. -/
def execXor_L (s : State) : Result := aluReg .xor .l s

/-- R367: XOR A. -/
def execXor_A (s : State) : Result := aluReg .xor .a s

/-- R368: XOR (HL). -/
def execXor_atHL (s : State) : Result := aluAtHl .xor s

/-- R369: XOR n. -/
def execXor_n (n : Byte) (s : State) : Result := aluImm .xor n s

/-- R370: OR B. -/
def execOr_B (s : State) : Result := aluReg .or .b s

/-- R370: OR C. -/
def execOr_C (s : State) : Result := aluReg .or .c s

/-- R370: OR D. -/
def execOr_D (s : State) : Result := aluReg .or .d s

/-- R370: OR E. -/
def execOr_E (s : State) : Result := aluReg .or .e s

/-- R370: OR H. -/
def execOr_H (s : State) : Result := aluReg .or .h s

/-- R370: OR L. -/
def execOr_L (s : State) : Result := aluReg .or .l s

/-- R370: OR A. -/
def execOr_A (s : State) : Result := aluReg .or .a s

/-- R371: OR (HL). -/
def execOr_atHL (s : State) : Result := aluAtHl .or s

/-- R372: OR n. -/
def execOr_n (n : Byte) (s : State) : Result := aluImm .or n s

/-- R373: CP B. -/
def execCp_B (s : State) : Result := aluReg .cp .b s

/-- R373: CP C. -/
def execCp_C (s : State) : Result := aluReg .cp .c s

/-- R373: CP D. -/
def execCp_D (s : State) : Result := aluReg .cp .d s

/-- R373: CP E. -/
def execCp_E (s : State) : Result := aluReg .cp .e s

/-- R373: CP H. -/
def execCp_H (s : State) : Result := aluReg .cp .h s

/-- R373: CP L. -/
def execCp_L (s : State) : Result := aluReg .cp .l s

/-- R373: CP A. -/
def execCp_A (s : State) : Result := aluReg .cp .a s

/-- R374: CP (HL). -/
def execCp_atHL (s : State) : Result := aluAtHl .cp s

/-- R375: CP n. -/
def execCp_n (n : Byte) (s : State) : Result := aluImm .cp n s

/-- R376: INC B. -/
def execInc_B (s : State) : Result := incReg .b s

/-- R376: INC C. -/
def execInc_C (s : State) : Result := incReg .c s

/-- R376: INC D. -/
def execInc_D (s : State) : Result := incReg .d s

/-- R376: INC E. -/
def execInc_E (s : State) : Result := incReg .e s

/-- R376: INC H. -/
def execInc_H (s : State) : Result := incReg .h s

/-- R376: INC L. -/
def execInc_L (s : State) : Result := incReg .l s

/-- R376: INC A. -/
def execInc_A (s : State) : Result := incReg .a s

/-- R377: INC (HL). -/
def execInc_atHL (s : State) : Result := .next (((s.write s.hl (s.read s.hl + 1#8)).setFlags (incFlags s.flags (s.read s.hl))).took 12)

/-- R378: DEC B. -/
def execDec_B (s : State) : Result := decReg .b s

/-- R378: DEC C. -/
def execDec_C (s : State) : Result := decReg .c s

/-- R378: DEC D. -/
def execDec_D (s : State) : Result := decReg .d s

/-- R378: DEC E. -/
def execDec_E (s : State) : Result := decReg .e s

/-- R378: DEC H. -/
def execDec_H (s : State) : Result := decReg .h s

/-- R378: DEC L. -/
def execDec_L (s : State) : Result := decReg .l s

/-- R378: DEC A. -/
def execDec_A (s : State) : Result := decReg .a s

/-- R379: DEC (HL). -/
def execDec_atHL (s : State) : Result := .next (((s.write s.hl (s.read s.hl - 1#8)).setFlags (decFlags s.flags (s.read s.hl))).took 12)

/-- R380: DAA. -/
def execDaa (s : State) : Result := adjustA (daaResult (s.reg8 .a) s.flags) (daaFlags (s.reg8 .a) s.flags) s

/-- R381: CPL. -/
def execCpl (s : State) : Result := adjustA (s.reg8 .a ^^^ 0xFF#8) (cplFlags s.flags) s

/-- R382: SCF. -/
def execScf (s : State) : Result := .next ((s.setFlags (scfFlags s.flags)).took 4)

/-- R383: CCF. -/
def execCcf (s : State) : Result := .next ((s.setFlags (ccfFlags s.flags)).took 4)

end Sys2Proof.Machine
end

