-- ==== Sys2Proof/Machine/BitOps.lean ====
section
/-!
DEFINITION. Bit test, reset and set (43_rotate_shift_bit.md section 3, R451 to R456).
-/
namespace Sys2Proof.Machine

/-! ### Shared operations -/

/-- R451: BIT b,r. -/
def bitOfReg (b : Fin 8) (r : Reg8) (s : State) : Result :=
  .next ((s.setFlags (bitFlags s.flags (s.reg8 r) b)).took 8)

/-- R452: BIT b,(HL). -/
def bitAtHl (b : Fin 8) (s : State) : Result := .next ((s.setFlags (bitFlags s.flags (s.read s.hl) b)).took 12)

/-- R453: RES b,r. -/
def resInReg (b : Fin 8) (r : Reg8) (s : State) : Result := .next ((s.setReg8 r (clearBit (s.reg8 r) b)).took 8)

/-- R454: RES b,(HL). -/
def resAtHl (b : Fin 8) (s : State) : Result := .next ((s.write s.hl (clearBit (s.read s.hl) b)).took 16)

/-- R455: SET b,r. -/
def setInReg (b : Fin 8) (r : Reg8) (s : State) : Result := .next ((s.setReg8 r (setBit (s.reg8 r) b)).took 8)

/-- R456: SET b,(HL). -/
def setAtHl (b : Fin 8) (s : State) : Result := .next ((s.write s.hl (setBit (s.read s.hl) b)).took 16)

/-! ### The instructions -/

/-- R451: BIT 0,B. -/
def execBit_0_B (s : State) : Result := bitOfReg 0 .b s

/-- R451: BIT 0,C. -/
def execBit_0_C (s : State) : Result := bitOfReg 0 .c s

/-- R451: BIT 0,D. -/
def execBit_0_D (s : State) : Result := bitOfReg 0 .d s

/-- R451: BIT 0,E. -/
def execBit_0_E (s : State) : Result := bitOfReg 0 .e s

/-- R451: BIT 0,H. -/
def execBit_0_H (s : State) : Result := bitOfReg 0 .h s

/-- R451: BIT 0,L. -/
def execBit_0_L (s : State) : Result := bitOfReg 0 .l s

/-- R451: BIT 0,A. -/
def execBit_0_A (s : State) : Result := bitOfReg 0 .a s

/-- R451: BIT 1,B. -/
def execBit_1_B (s : State) : Result := bitOfReg 1 .b s

/-- R451: BIT 1,C. -/
def execBit_1_C (s : State) : Result := bitOfReg 1 .c s

/-- R451: BIT 1,D. -/
def execBit_1_D (s : State) : Result := bitOfReg 1 .d s

/-- R451: BIT 1,E. -/
def execBit_1_E (s : State) : Result := bitOfReg 1 .e s

/-- R451: BIT 1,H. -/
def execBit_1_H (s : State) : Result := bitOfReg 1 .h s

/-- R451: BIT 1,L. -/
def execBit_1_L (s : State) : Result := bitOfReg 1 .l s

/-- R451: BIT 1,A. -/
def execBit_1_A (s : State) : Result := bitOfReg 1 .a s

/-- R451: BIT 2,B. -/
def execBit_2_B (s : State) : Result := bitOfReg 2 .b s

/-- R451: BIT 2,C. -/
def execBit_2_C (s : State) : Result := bitOfReg 2 .c s

/-- R451: BIT 2,D. -/
def execBit_2_D (s : State) : Result := bitOfReg 2 .d s

/-- R451: BIT 2,E. -/
def execBit_2_E (s : State) : Result := bitOfReg 2 .e s

/-- R451: BIT 2,H. -/
def execBit_2_H (s : State) : Result := bitOfReg 2 .h s

/-- R451: BIT 2,L. -/
def execBit_2_L (s : State) : Result := bitOfReg 2 .l s

/-- R451: BIT 2,A. -/
def execBit_2_A (s : State) : Result := bitOfReg 2 .a s

/-- R451: BIT 3,B. -/
def execBit_3_B (s : State) : Result := bitOfReg 3 .b s

/-- R451: BIT 3,C. -/
def execBit_3_C (s : State) : Result := bitOfReg 3 .c s

/-- R451: BIT 3,D. -/
def execBit_3_D (s : State) : Result := bitOfReg 3 .d s

/-- R451: BIT 3,E. -/
def execBit_3_E (s : State) : Result := bitOfReg 3 .e s

/-- R451: BIT 3,H. -/
def execBit_3_H (s : State) : Result := bitOfReg 3 .h s

/-- R451: BIT 3,L. -/
def execBit_3_L (s : State) : Result := bitOfReg 3 .l s

/-- R451: BIT 3,A. -/
def execBit_3_A (s : State) : Result := bitOfReg 3 .a s

/-- R451: BIT 4,B. -/
def execBit_4_B (s : State) : Result := bitOfReg 4 .b s

/-- R451: BIT 4,C. -/
def execBit_4_C (s : State) : Result := bitOfReg 4 .c s

/-- R451: BIT 4,D. -/
def execBit_4_D (s : State) : Result := bitOfReg 4 .d s

/-- R451: BIT 4,E. -/
def execBit_4_E (s : State) : Result := bitOfReg 4 .e s

/-- R451: BIT 4,H. -/
def execBit_4_H (s : State) : Result := bitOfReg 4 .h s

/-- R451: BIT 4,L. -/
def execBit_4_L (s : State) : Result := bitOfReg 4 .l s

/-- R451: BIT 4,A. -/
def execBit_4_A (s : State) : Result := bitOfReg 4 .a s

/-- R451: BIT 5,B. -/
def execBit_5_B (s : State) : Result := bitOfReg 5 .b s

/-- R451: BIT 5,C. -/
def execBit_5_C (s : State) : Result := bitOfReg 5 .c s

/-- R451: BIT 5,D. -/
def execBit_5_D (s : State) : Result := bitOfReg 5 .d s

/-- R451: BIT 5,E. -/
def execBit_5_E (s : State) : Result := bitOfReg 5 .e s

/-- R451: BIT 5,H. -/
def execBit_5_H (s : State) : Result := bitOfReg 5 .h s

/-- R451: BIT 5,L. -/
def execBit_5_L (s : State) : Result := bitOfReg 5 .l s

/-- R451: BIT 5,A. -/
def execBit_5_A (s : State) : Result := bitOfReg 5 .a s

/-- R451: BIT 6,B. -/
def execBit_6_B (s : State) : Result := bitOfReg 6 .b s

/-- R451: BIT 6,C. -/
def execBit_6_C (s : State) : Result := bitOfReg 6 .c s

/-- R451: BIT 6,D. -/
def execBit_6_D (s : State) : Result := bitOfReg 6 .d s

/-- R451: BIT 6,E. -/
def execBit_6_E (s : State) : Result := bitOfReg 6 .e s

/-- R451: BIT 6,H. -/
def execBit_6_H (s : State) : Result := bitOfReg 6 .h s

/-- R451: BIT 6,L. -/
def execBit_6_L (s : State) : Result := bitOfReg 6 .l s

/-- R451: BIT 6,A. -/
def execBit_6_A (s : State) : Result := bitOfReg 6 .a s

/-- R451: BIT 7,B. -/
def execBit_7_B (s : State) : Result := bitOfReg 7 .b s

/-- R451: BIT 7,C. -/
def execBit_7_C (s : State) : Result := bitOfReg 7 .c s

/-- R451: BIT 7,D. -/
def execBit_7_D (s : State) : Result := bitOfReg 7 .d s

/-- R451: BIT 7,E. -/
def execBit_7_E (s : State) : Result := bitOfReg 7 .e s

/-- R451: BIT 7,H. -/
def execBit_7_H (s : State) : Result := bitOfReg 7 .h s

/-- R451: BIT 7,L. -/
def execBit_7_L (s : State) : Result := bitOfReg 7 .l s

/-- R451: BIT 7,A. -/
def execBit_7_A (s : State) : Result := bitOfReg 7 .a s

/-- R452: BIT 0,(HL). -/
def execBit_0_atHL (s : State) : Result := bitAtHl 0 s

/-- R452: BIT 1,(HL). -/
def execBit_1_atHL (s : State) : Result := bitAtHl 1 s

/-- R452: BIT 2,(HL). -/
def execBit_2_atHL (s : State) : Result := bitAtHl 2 s

/-- R452: BIT 3,(HL). -/
def execBit_3_atHL (s : State) : Result := bitAtHl 3 s

/-- R452: BIT 4,(HL). -/
def execBit_4_atHL (s : State) : Result := bitAtHl 4 s

/-- R452: BIT 5,(HL). -/
def execBit_5_atHL (s : State) : Result := bitAtHl 5 s

/-- R452: BIT 6,(HL). -/
def execBit_6_atHL (s : State) : Result := bitAtHl 6 s

/-- R452: BIT 7,(HL). -/
def execBit_7_atHL (s : State) : Result := bitAtHl 7 s

/-- R453: RES 0,B. -/
def execRes_0_B (s : State) : Result := resInReg 0 .b s

/-- R453: RES 0,C. -/
def execRes_0_C (s : State) : Result := resInReg 0 .c s

/-- R453: RES 0,D. -/
def execRes_0_D (s : State) : Result := resInReg 0 .d s

/-- R453: RES 0,E. -/
def execRes_0_E (s : State) : Result := resInReg 0 .e s

/-- R453: RES 0,H. -/
def execRes_0_H (s : State) : Result := resInReg 0 .h s

/-- R453: RES 0,L. -/
def execRes_0_L (s : State) : Result := resInReg 0 .l s

/-- R453: RES 0,A. -/
def execRes_0_A (s : State) : Result := resInReg 0 .a s

/-- R453: RES 1,B. -/
def execRes_1_B (s : State) : Result := resInReg 1 .b s

/-- R453: RES 1,C. -/
def execRes_1_C (s : State) : Result := resInReg 1 .c s

/-- R453: RES 1,D. -/
def execRes_1_D (s : State) : Result := resInReg 1 .d s

/-- R453: RES 1,E. -/
def execRes_1_E (s : State) : Result := resInReg 1 .e s

/-- R453: RES 1,H. -/
def execRes_1_H (s : State) : Result := resInReg 1 .h s

/-- R453: RES 1,L. -/
def execRes_1_L (s : State) : Result := resInReg 1 .l s

/-- R453: RES 1,A. -/
def execRes_1_A (s : State) : Result := resInReg 1 .a s

/-- R453: RES 2,B. -/
def execRes_2_B (s : State) : Result := resInReg 2 .b s

/-- R453: RES 2,C. -/
def execRes_2_C (s : State) : Result := resInReg 2 .c s

/-- R453: RES 2,D. -/
def execRes_2_D (s : State) : Result := resInReg 2 .d s

/-- R453: RES 2,E. -/
def execRes_2_E (s : State) : Result := resInReg 2 .e s

/-- R453: RES 2,H. -/
def execRes_2_H (s : State) : Result := resInReg 2 .h s

/-- R453: RES 2,L. -/
def execRes_2_L (s : State) : Result := resInReg 2 .l s

/-- R453: RES 2,A. -/
def execRes_2_A (s : State) : Result := resInReg 2 .a s

/-- R453: RES 3,B. -/
def execRes_3_B (s : State) : Result := resInReg 3 .b s

/-- R453: RES 3,C. -/
def execRes_3_C (s : State) : Result := resInReg 3 .c s

/-- R453: RES 3,D. -/
def execRes_3_D (s : State) : Result := resInReg 3 .d s

/-- R453: RES 3,E. -/
def execRes_3_E (s : State) : Result := resInReg 3 .e s

/-- R453: RES 3,H. -/
def execRes_3_H (s : State) : Result := resInReg 3 .h s

/-- R453: RES 3,L. -/
def execRes_3_L (s : State) : Result := resInReg 3 .l s

/-- R453: RES 3,A. -/
def execRes_3_A (s : State) : Result := resInReg 3 .a s

/-- R453: RES 4,B. -/
def execRes_4_B (s : State) : Result := resInReg 4 .b s

/-- R453: RES 4,C. -/
def execRes_4_C (s : State) : Result := resInReg 4 .c s

/-- R453: RES 4,D. -/
def execRes_4_D (s : State) : Result := resInReg 4 .d s

/-- R453: RES 4,E. -/
def execRes_4_E (s : State) : Result := resInReg 4 .e s

/-- R453: RES 4,H. -/
def execRes_4_H (s : State) : Result := resInReg 4 .h s

/-- R453: RES 4,L. -/
def execRes_4_L (s : State) : Result := resInReg 4 .l s

/-- R453: RES 4,A. -/
def execRes_4_A (s : State) : Result := resInReg 4 .a s

/-- R453: RES 5,B. -/
def execRes_5_B (s : State) : Result := resInReg 5 .b s

/-- R453: RES 5,C. -/
def execRes_5_C (s : State) : Result := resInReg 5 .c s

/-- R453: RES 5,D. -/
def execRes_5_D (s : State) : Result := resInReg 5 .d s

/-- R453: RES 5,E. -/
def execRes_5_E (s : State) : Result := resInReg 5 .e s

/-- R453: RES 5,H. -/
def execRes_5_H (s : State) : Result := resInReg 5 .h s

/-- R453: RES 5,L. -/
def execRes_5_L (s : State) : Result := resInReg 5 .l s

/-- R453: RES 5,A. -/
def execRes_5_A (s : State) : Result := resInReg 5 .a s

/-- R453: RES 6,B. -/
def execRes_6_B (s : State) : Result := resInReg 6 .b s

/-- R453: RES 6,C. -/
def execRes_6_C (s : State) : Result := resInReg 6 .c s

/-- R453: RES 6,D. -/
def execRes_6_D (s : State) : Result := resInReg 6 .d s

/-- R453: RES 6,E. -/
def execRes_6_E (s : State) : Result := resInReg 6 .e s

/-- R453: RES 6,H. -/
def execRes_6_H (s : State) : Result := resInReg 6 .h s

/-- R453: RES 6,L. -/
def execRes_6_L (s : State) : Result := resInReg 6 .l s

/-- R453: RES 6,A. -/
def execRes_6_A (s : State) : Result := resInReg 6 .a s

/-- R453: RES 7,B. -/
def execRes_7_B (s : State) : Result := resInReg 7 .b s

/-- R453: RES 7,C. -/
def execRes_7_C (s : State) : Result := resInReg 7 .c s

/-- R453: RES 7,D. -/
def execRes_7_D (s : State) : Result := resInReg 7 .d s

/-- R453: RES 7,E. -/
def execRes_7_E (s : State) : Result := resInReg 7 .e s

/-- R453: RES 7,H. -/
def execRes_7_H (s : State) : Result := resInReg 7 .h s

/-- R453: RES 7,L. -/
def execRes_7_L (s : State) : Result := resInReg 7 .l s

/-- R453: RES 7,A. -/
def execRes_7_A (s : State) : Result := resInReg 7 .a s

/-- R454: RES 0,(HL). -/
def execRes_0_atHL (s : State) : Result := resAtHl 0 s

/-- R454: RES 1,(HL). -/
def execRes_1_atHL (s : State) : Result := resAtHl 1 s

/-- R454: RES 2,(HL). -/
def execRes_2_atHL (s : State) : Result := resAtHl 2 s

/-- R454: RES 3,(HL). -/
def execRes_3_atHL (s : State) : Result := resAtHl 3 s

/-- R454: RES 4,(HL). -/
def execRes_4_atHL (s : State) : Result := resAtHl 4 s

/-- R454: RES 5,(HL). -/
def execRes_5_atHL (s : State) : Result := resAtHl 5 s

/-- R454: RES 6,(HL). -/
def execRes_6_atHL (s : State) : Result := resAtHl 6 s

/-- R454: RES 7,(HL). -/
def execRes_7_atHL (s : State) : Result := resAtHl 7 s

/-- R455: SET 0,B. -/
def execSet_0_B (s : State) : Result := setInReg 0 .b s

/-- R455: SET 0,C. -/
def execSet_0_C (s : State) : Result := setInReg 0 .c s

/-- R455: SET 0,D. -/
def execSet_0_D (s : State) : Result := setInReg 0 .d s

/-- R455: SET 0,E. -/
def execSet_0_E (s : State) : Result := setInReg 0 .e s

/-- R455: SET 0,H. -/
def execSet_0_H (s : State) : Result := setInReg 0 .h s

/-- R455: SET 0,L. -/
def execSet_0_L (s : State) : Result := setInReg 0 .l s

/-- R455: SET 0,A. -/
def execSet_0_A (s : State) : Result := setInReg 0 .a s

/-- R455: SET 1,B. -/
def execSet_1_B (s : State) : Result := setInReg 1 .b s

/-- R455: SET 1,C. -/
def execSet_1_C (s : State) : Result := setInReg 1 .c s

/-- R455: SET 1,D. -/
def execSet_1_D (s : State) : Result := setInReg 1 .d s

/-- R455: SET 1,E. -/
def execSet_1_E (s : State) : Result := setInReg 1 .e s

/-- R455: SET 1,H. -/
def execSet_1_H (s : State) : Result := setInReg 1 .h s

/-- R455: SET 1,L. -/
def execSet_1_L (s : State) : Result := setInReg 1 .l s

/-- R455: SET 1,A. -/
def execSet_1_A (s : State) : Result := setInReg 1 .a s

/-- R455: SET 2,B. -/
def execSet_2_B (s : State) : Result := setInReg 2 .b s

/-- R455: SET 2,C. -/
def execSet_2_C (s : State) : Result := setInReg 2 .c s

/-- R455: SET 2,D. -/
def execSet_2_D (s : State) : Result := setInReg 2 .d s

/-- R455: SET 2,E. -/
def execSet_2_E (s : State) : Result := setInReg 2 .e s

/-- R455: SET 2,H. -/
def execSet_2_H (s : State) : Result := setInReg 2 .h s

/-- R455: SET 2,L. -/
def execSet_2_L (s : State) : Result := setInReg 2 .l s

/-- R455: SET 2,A. -/
def execSet_2_A (s : State) : Result := setInReg 2 .a s

/-- R455: SET 3,B. -/
def execSet_3_B (s : State) : Result := setInReg 3 .b s

/-- R455: SET 3,C. -/
def execSet_3_C (s : State) : Result := setInReg 3 .c s

/-- R455: SET 3,D. -/
def execSet_3_D (s : State) : Result := setInReg 3 .d s

/-- R455: SET 3,E. -/
def execSet_3_E (s : State) : Result := setInReg 3 .e s

/-- R455: SET 3,H. -/
def execSet_3_H (s : State) : Result := setInReg 3 .h s

/-- R455: SET 3,L. -/
def execSet_3_L (s : State) : Result := setInReg 3 .l s

/-- R455: SET 3,A. -/
def execSet_3_A (s : State) : Result := setInReg 3 .a s

/-- R455: SET 4,B. -/
def execSet_4_B (s : State) : Result := setInReg 4 .b s

/-- R455: SET 4,C. -/
def execSet_4_C (s : State) : Result := setInReg 4 .c s

/-- R455: SET 4,D. -/
def execSet_4_D (s : State) : Result := setInReg 4 .d s

/-- R455: SET 4,E. -/
def execSet_4_E (s : State) : Result := setInReg 4 .e s

/-- R455: SET 4,H. -/
def execSet_4_H (s : State) : Result := setInReg 4 .h s

/-- R455: SET 4,L. -/
def execSet_4_L (s : State) : Result := setInReg 4 .l s

/-- R455: SET 4,A. -/
def execSet_4_A (s : State) : Result := setInReg 4 .a s

/-- R455: SET 5,B. -/
def execSet_5_B (s : State) : Result := setInReg 5 .b s

/-- R455: SET 5,C. -/
def execSet_5_C (s : State) : Result := setInReg 5 .c s

/-- R455: SET 5,D. -/
def execSet_5_D (s : State) : Result := setInReg 5 .d s

/-- R455: SET 5,E. -/
def execSet_5_E (s : State) : Result := setInReg 5 .e s

/-- R455: SET 5,H. -/
def execSet_5_H (s : State) : Result := setInReg 5 .h s

/-- R455: SET 5,L. -/
def execSet_5_L (s : State) : Result := setInReg 5 .l s

/-- R455: SET 5,A. -/
def execSet_5_A (s : State) : Result := setInReg 5 .a s

/-- R455: SET 6,B. -/
def execSet_6_B (s : State) : Result := setInReg 6 .b s

/-- R455: SET 6,C. -/
def execSet_6_C (s : State) : Result := setInReg 6 .c s

/-- R455: SET 6,D. -/
def execSet_6_D (s : State) : Result := setInReg 6 .d s

/-- R455: SET 6,E. -/
def execSet_6_E (s : State) : Result := setInReg 6 .e s

/-- R455: SET 6,H. -/
def execSet_6_H (s : State) : Result := setInReg 6 .h s

/-- R455: SET 6,L. -/
def execSet_6_L (s : State) : Result := setInReg 6 .l s

/-- R455: SET 6,A. -/
def execSet_6_A (s : State) : Result := setInReg 6 .a s

/-- R455: SET 7,B. -/
def execSet_7_B (s : State) : Result := setInReg 7 .b s

/-- R455: SET 7,C. -/
def execSet_7_C (s : State) : Result := setInReg 7 .c s

/-- R455: SET 7,D. -/
def execSet_7_D (s : State) : Result := setInReg 7 .d s

/-- R455: SET 7,E. -/
def execSet_7_E (s : State) : Result := setInReg 7 .e s

/-- R455: SET 7,H. -/
def execSet_7_H (s : State) : Result := setInReg 7 .h s

/-- R455: SET 7,L. -/
def execSet_7_L (s : State) : Result := setInReg 7 .l s

/-- R455: SET 7,A. -/
def execSet_7_A (s : State) : Result := setInReg 7 .a s

/-- R456: SET 0,(HL). -/
def execSet_0_atHL (s : State) : Result := setAtHl 0 s

/-- R456: SET 1,(HL). -/
def execSet_1_atHL (s : State) : Result := setAtHl 1 s

/-- R456: SET 2,(HL). -/
def execSet_2_atHL (s : State) : Result := setAtHl 2 s

/-- R456: SET 3,(HL). -/
def execSet_3_atHL (s : State) : Result := setAtHl 3 s

/-- R456: SET 4,(HL). -/
def execSet_4_atHL (s : State) : Result := setAtHl 4 s

/-- R456: SET 5,(HL). -/
def execSet_5_atHL (s : State) : Result := setAtHl 5 s

/-- R456: SET 6,(HL). -/
def execSet_6_atHL (s : State) : Result := setAtHl 6 s

/-- R456: SET 7,(HL). -/
def execSet_7_atHL (s : State) : Result := setAtHl 7 s

end Sys2Proof.Machine
end

