-- ==== Sys2Proof/Machine/Control.lean ====
section
/-!
DEFINITION. Jumps, calls, returns and restarts (44_control.md, R470 to R480). PC is past the instruction when a meaning starts (R12).
-/
namespace Sys2Proof.Machine

/-! ### Shared operations -/

/-- R473: the target of a relative jump, from the address after the instruction. -/
def relativeTarget (pc : Word) (e : Byte) : Word := pc + signExtend16 e

/-- R475, R476, R480: push the return address, then jump. -/
def State.call (s : State) (target : Word) : State := (s.push16 s.pc).setPc target

/-- R471: JP cc,nn. -/
def jumpIf (cc : Cond) (nn : Word) (s : State) : Result :=
  .next (if s.flags.holds cc then (s.setPc nn).took 16 else s.took 12)

/-- R474: JR cc,e. -/
def jumpRelIf (cc : Cond) (e : Byte) (s : State) : Result :=
  .next (if s.flags.holds cc then (s.setPc (relativeTarget s.pc e)).took 12 else s.took 8)

/-- R476: CALL cc,nn. -/
def callIf (cc : Cond) (nn : Word) (s : State) : Result :=
  .next (if s.flags.holds cc then (s.call nn).took 24 else s.took 12)

/-- R478: RET cc. -/
def returnIf (cc : Cond) (s : State) : Result :=
  .next (if s.flags.holds cc then s.popPc.took 20 else s.took 8)

/-- R256, R480: RST, whose target is t x 8. -/
def restart (t : Fin 8) (s : State) : Result := .next ((s.call (BitVec.ofNat 16 (t.val * 8))).took 16)

/-! ### The instructions -/

/-- R470: JP nn. -/
def execJp_nn (nn : Word) (s : State) : Result := .next ((s.setPc nn).took 16)

/-- R471: JP NZ,nn. -/
def execJp_NZ_nn (nn : Word) (s : State) : Result := jumpIf .nz nn s

/-- R471: JP Z,nn. -/
def execJp_Z_nn (nn : Word) (s : State) : Result := jumpIf .z nn s

/-- R471: JP NC,nn. -/
def execJp_NC_nn (nn : Word) (s : State) : Result := jumpIf .nc nn s

/-- R471: JP C,nn. -/
def execJp_C_nn (nn : Word) (s : State) : Result := jumpIf .c nn s

/-- R472: JP HL. -/
def execJp_HL (s : State) : Result := .next ((s.setPc s.hl).took 4)

/-- R473: JR e. -/
def execJr_e (e : Byte) (s : State) : Result := .next ((s.setPc (relativeTarget s.pc e)).took 12)

/-- R474: JR NZ,e. -/
def execJr_NZ_e (e : Byte) (s : State) : Result := jumpRelIf .nz e s

/-- R474: JR Z,e. -/
def execJr_Z_e (e : Byte) (s : State) : Result := jumpRelIf .z e s

/-- R474: JR NC,e. -/
def execJr_NC_e (e : Byte) (s : State) : Result := jumpRelIf .nc e s

/-- R474: JR C,e. -/
def execJr_C_e (e : Byte) (s : State) : Result := jumpRelIf .c e s

/-- R475: CALL nn. -/
def execCall_nn (nn : Word) (s : State) : Result := .next ((s.call nn).took 24)

/-- R476: CALL NZ,nn. -/
def execCall_NZ_nn (nn : Word) (s : State) : Result := callIf .nz nn s

/-- R476: CALL Z,nn. -/
def execCall_Z_nn (nn : Word) (s : State) : Result := callIf .z nn s

/-- R476: CALL NC,nn. -/
def execCall_NC_nn (nn : Word) (s : State) : Result := callIf .nc nn s

/-- R476: CALL C,nn. -/
def execCall_C_nn (nn : Word) (s : State) : Result := callIf .c nn s

/-- R477: RET. -/
def execRet (s : State) : Result := .next (s.popPc.took 16)

/-- R478: RET NZ. -/
def execRet_NZ (s : State) : Result := returnIf .nz s

/-- R478: RET Z. -/
def execRet_Z (s : State) : Result := returnIf .z s

/-- R478: RET NC. -/
def execRet_NC (s : State) : Result := returnIf .nc s

/-- R478: RET C. -/
def execRet_C (s : State) : Result := returnIf .c s

/-- R479: RETI. -/
def execReti (s : State) : Result := .next (s.returnFromInterrupt.took 16)

/-- R480: RST 0x00. -/
def execRst_00 (s : State) : Result := restart 0 s

/-- R480: RST 0x08. -/
def execRst_08 (s : State) : Result := restart 1 s

/-- R480: RST 0x10. -/
def execRst_10 (s : State) : Result := restart 2 s

/-- R480: RST 0x18. -/
def execRst_18 (s : State) : Result := restart 3 s

/-- R480: RST 0x20. -/
def execRst_20 (s : State) : Result := restart 4 s

/-- R480: RST 0x28. -/
def execRst_28 (s : State) : Result := restart 5 s

/-- R480: RST 0x30. -/
def execRst_30 (s : State) : Result := restart 6 s

/-- R480: RST 0x38. -/
def execRst_38 (s : State) : Result := restart 7 s

end Sys2Proof.Machine
end

