-- ==== Sys2Proof/Machine/Load.lean ====
section
/-!
DEFINITION. Loads, stores, PUSH and POP (40_loads.md, R300 to R324).
-/
namespace Sys2Proof.Machine

/-! ### Shared operations -/

/-- R300: LD r,r'. -/
def loadReg (dst src : Reg8) (s : State) : Result := .next ((s.setReg8 dst (s.reg8 src)).took 4)

/-- R301: LD r,n. -/
def loadImm (dst : Reg8) (n : Byte) (s : State) : Result := .next ((s.setReg8 dst n).took 8)

/-- R302, R305, R306, R309, R311, R313: load a register from an address. -/
def loadFrom (dst : Reg8) (addr : Word) (cycles : Nat) (s : State) : Result :=
  .next ((s.setReg8 dst (s.read addr)).took cycles)

/-- R303, R304, R307, R308, R310, R312, R314: store a byte at an address. -/
def storeTo (addr : Word) (v : Byte) (cycles : Nat) (s : State) : Result := .next ((s.write addr v).took cycles)

/-- R315, R316: LD A,(HL+) and LD A,(HL-): load A from HL, then move HL by `step`. -/
def loadAMoveHl (step : Word) (s : State) : Result :=
  .next (((s.setReg8 .a (s.read s.hl)).setHl (s.hl + step)).took 8)

/-- R317, R318: LD (HL+),A and LD (HL-),A: store A at HL, then move HL by `step`. -/
def storeAMoveHl (step : Word) (s : State) : Result :=
  .next (((s.write s.hl (s.reg8 .a)).setHl (s.hl + step)).took 8)

/-- R319: LD rr,nn. -/
def loadImm16 (rr : Reg16) (nn : Word) (s : State) : Result := .next ((s.setReg16 rr nn).took 12)

/-- R322: PUSH qq. -/
def push (qq : PushReg) (s : State) : Result := .next ((s.push16 (s.pushReg qq)).took 16)

/-- R323: POP qq, qq not AF. -/
def pop (qq : PopReg) (s : State) : Result := .next ((s.dropTop16.setPopReg qq s.top16).took 12)

/-! ### The instructions -/

/-- R300: LD B,B. -/
def execLd_B_B (s : State) : Result := loadReg .b .b s

/-- R300: LD B,C. -/
def execLd_B_C (s : State) : Result := loadReg .b .c s

/-- R300: LD B,D. -/
def execLd_B_D (s : State) : Result := loadReg .b .d s

/-- R300: LD B,E. -/
def execLd_B_E (s : State) : Result := loadReg .b .e s

/-- R300: LD B,H. -/
def execLd_B_H (s : State) : Result := loadReg .b .h s

/-- R300: LD B,L. -/
def execLd_B_L (s : State) : Result := loadReg .b .l s

/-- R300: LD B,A. -/
def execLd_B_A (s : State) : Result := loadReg .b .a s

/-- R300: LD C,B. -/
def execLd_C_B (s : State) : Result := loadReg .c .b s

/-- R300: LD C,C. -/
def execLd_C_C (s : State) : Result := loadReg .c .c s

/-- R300: LD C,D. -/
def execLd_C_D (s : State) : Result := loadReg .c .d s

/-- R300: LD C,E. -/
def execLd_C_E (s : State) : Result := loadReg .c .e s

/-- R300: LD C,H. -/
def execLd_C_H (s : State) : Result := loadReg .c .h s

/-- R300: LD C,L. -/
def execLd_C_L (s : State) : Result := loadReg .c .l s

/-- R300: LD C,A. -/
def execLd_C_A (s : State) : Result := loadReg .c .a s

/-- R300: LD D,B. -/
def execLd_D_B (s : State) : Result := loadReg .d .b s

/-- R300: LD D,C. -/
def execLd_D_C (s : State) : Result := loadReg .d .c s

/-- R300: LD D,D. -/
def execLd_D_D (s : State) : Result := loadReg .d .d s

/-- R300: LD D,E. -/
def execLd_D_E (s : State) : Result := loadReg .d .e s

/-- R300: LD D,H. -/
def execLd_D_H (s : State) : Result := loadReg .d .h s

/-- R300: LD D,L. -/
def execLd_D_L (s : State) : Result := loadReg .d .l s

/-- R300: LD D,A. -/
def execLd_D_A (s : State) : Result := loadReg .d .a s

/-- R300: LD E,B. -/
def execLd_E_B (s : State) : Result := loadReg .e .b s

/-- R300: LD E,C. -/
def execLd_E_C (s : State) : Result := loadReg .e .c s

/-- R300: LD E,D. -/
def execLd_E_D (s : State) : Result := loadReg .e .d s

/-- R300: LD E,E. -/
def execLd_E_E (s : State) : Result := loadReg .e .e s

/-- R300: LD E,H. -/
def execLd_E_H (s : State) : Result := loadReg .e .h s

/-- R300: LD E,L. -/
def execLd_E_L (s : State) : Result := loadReg .e .l s

/-- R300: LD E,A. -/
def execLd_E_A (s : State) : Result := loadReg .e .a s

/-- R300: LD H,B. -/
def execLd_H_B (s : State) : Result := loadReg .h .b s

/-- R300: LD H,C. -/
def execLd_H_C (s : State) : Result := loadReg .h .c s

/-- R300: LD H,D. -/
def execLd_H_D (s : State) : Result := loadReg .h .d s

/-- R300: LD H,E. -/
def execLd_H_E (s : State) : Result := loadReg .h .e s

/-- R300: LD H,H. -/
def execLd_H_H (s : State) : Result := loadReg .h .h s

/-- R300: LD H,L. -/
def execLd_H_L (s : State) : Result := loadReg .h .l s

/-- R300: LD H,A. -/
def execLd_H_A (s : State) : Result := loadReg .h .a s

/-- R300: LD L,B. -/
def execLd_L_B (s : State) : Result := loadReg .l .b s

/-- R300: LD L,C. -/
def execLd_L_C (s : State) : Result := loadReg .l .c s

/-- R300: LD L,D. -/
def execLd_L_D (s : State) : Result := loadReg .l .d s

/-- R300: LD L,E. -/
def execLd_L_E (s : State) : Result := loadReg .l .e s

/-- R300: LD L,H. -/
def execLd_L_H (s : State) : Result := loadReg .l .h s

/-- R300: LD L,L. -/
def execLd_L_L (s : State) : Result := loadReg .l .l s

/-- R300: LD L,A. -/
def execLd_L_A (s : State) : Result := loadReg .l .a s

/-- R300: LD A,B. -/
def execLd_A_B (s : State) : Result := loadReg .a .b s

/-- R300: LD A,C. -/
def execLd_A_C (s : State) : Result := loadReg .a .c s

/-- R300: LD A,D. -/
def execLd_A_D (s : State) : Result := loadReg .a .d s

/-- R300: LD A,E. -/
def execLd_A_E (s : State) : Result := loadReg .a .e s

/-- R300: LD A,H. -/
def execLd_A_H (s : State) : Result := loadReg .a .h s

/-- R300: LD A,L. -/
def execLd_A_L (s : State) : Result := loadReg .a .l s

/-- R300: LD A,A. -/
def execLd_A_A (s : State) : Result := loadReg .a .a s

/-- R301: LD B,n. -/
def execLd_B_n (n : Byte) (s : State) : Result := loadImm .b n s

/-- R301: LD C,n. -/
def execLd_C_n (n : Byte) (s : State) : Result := loadImm .c n s

/-- R301: LD D,n. -/
def execLd_D_n (n : Byte) (s : State) : Result := loadImm .d n s

/-- R301: LD E,n. -/
def execLd_E_n (n : Byte) (s : State) : Result := loadImm .e n s

/-- R301: LD H,n. -/
def execLd_H_n (n : Byte) (s : State) : Result := loadImm .h n s

/-- R301: LD L,n. -/
def execLd_L_n (n : Byte) (s : State) : Result := loadImm .l n s

/-- R301: LD A,n. -/
def execLd_A_n (n : Byte) (s : State) : Result := loadImm .a n s

/-- R302: LD B,(HL). -/
def execLd_B_atHL (s : State) : Result := loadFrom .b s.hl 8 s

/-- R302: LD C,(HL). -/
def execLd_C_atHL (s : State) : Result := loadFrom .c s.hl 8 s

/-- R302: LD D,(HL). -/
def execLd_D_atHL (s : State) : Result := loadFrom .d s.hl 8 s

/-- R302: LD E,(HL). -/
def execLd_E_atHL (s : State) : Result := loadFrom .e s.hl 8 s

/-- R302: LD H,(HL). -/
def execLd_H_atHL (s : State) : Result := loadFrom .h s.hl 8 s

/-- R302: LD L,(HL). -/
def execLd_L_atHL (s : State) : Result := loadFrom .l s.hl 8 s

/-- R302: LD A,(HL). -/
def execLd_A_atHL (s : State) : Result := loadFrom .a s.hl 8 s

/-- R303: LD (HL),B. -/
def execLd_atHL_B (s : State) : Result := storeTo s.hl (s.reg8 .b) 8 s

/-- R303: LD (HL),C. -/
def execLd_atHL_C (s : State) : Result := storeTo s.hl (s.reg8 .c) 8 s

/-- R303: LD (HL),D. -/
def execLd_atHL_D (s : State) : Result := storeTo s.hl (s.reg8 .d) 8 s

/-- R303: LD (HL),E. -/
def execLd_atHL_E (s : State) : Result := storeTo s.hl (s.reg8 .e) 8 s

/-- R303: LD (HL),H. -/
def execLd_atHL_H (s : State) : Result := storeTo s.hl (s.reg8 .h) 8 s

/-- R303: LD (HL),L. -/
def execLd_atHL_L (s : State) : Result := storeTo s.hl (s.reg8 .l) 8 s

/-- R303: LD (HL),A. -/
def execLd_atHL_A (s : State) : Result := storeTo s.hl (s.reg8 .a) 8 s

/-- R304: LD (HL),n. -/
def execLd_atHL_n (n : Byte) (s : State) : Result := storeTo s.hl n 12 s

/-- R305: LD A,(BC). -/
def execLd_A_atBC (s : State) : Result := loadFrom .a s.bc 8 s

/-- R306: LD A,(DE). -/
def execLd_A_atDE (s : State) : Result := loadFrom .a s.de 8 s

/-- R307: LD (BC),A. -/
def execLd_atBC_A (s : State) : Result := storeTo s.bc (s.reg8 .a) 8 s

/-- R308: LD (DE),A. -/
def execLd_atDE_A (s : State) : Result := storeTo s.de (s.reg8 .a) 8 s

/-- R309: LD A,(nn). -/
def execLd_A_atnn (nn : Word) (s : State) : Result := loadFrom .a nn 16 s

/-- R310: LD (nn),A. -/
def execLd_atnn_A (nn : Word) (s : State) : Result := storeTo nn (s.reg8 .a) 16 s

/-- R311: LDH A,(n). -/
def execLdh_A_atn (n : Byte) (s : State) : Result := loadFrom .a (highPage n) 12 s

/-- R312: LDH (n),A. -/
def execLdh_atn_A (n : Byte) (s : State) : Result := storeTo (highPage n) (s.reg8 .a) 12 s

/-- R313: LD A,(C). -/
def execLd_A_atC (s : State) : Result := loadFrom .a (highPage (s.reg8 .c)) 8 s

/-- R314: LD (C),A. -/
def execLd_atC_A (s : State) : Result := storeTo (highPage (s.reg8 .c)) (s.reg8 .a) 8 s

/-- R315: LD A,(HL+). -/
def execLd_A_atHLinc (s : State) : Result := loadAMoveHl 1#16 s

/-- R316: LD A,(HL-). -/
def execLd_A_atHLdec (s : State) : Result := loadAMoveHl (-1#16) s

/-- R317: LD (HL+),A. -/
def execLd_atHLinc_A (s : State) : Result := storeAMoveHl 1#16 s

/-- R318: LD (HL-),A. -/
def execLd_atHLdec_A (s : State) : Result := storeAMoveHl (-1#16) s

/-- R319: LD BC,nn. -/
def execLd_BC_nn (nn : Word) (s : State) : Result := loadImm16 .bc nn s

/-- R319: LD DE,nn. -/
def execLd_DE_nn (nn : Word) (s : State) : Result := loadImm16 .de nn s

/-- R319: LD HL,nn. -/
def execLd_HL_nn (nn : Word) (s : State) : Result := loadImm16 .hl nn s

/-- R319: LD SP,nn. -/
def execLd_SP_nn (nn : Word) (s : State) : Result := loadImm16 .sp nn s

/-- R320: LD (nn),SP. -/
def execLd_atnn_SP (nn : Word) (s : State) : Result := .next ((s.write16 nn s.sp).took 20)

/-- R321: LD SP,HL. -/
def execLd_SP_HL (s : State) : Result := .next ((s.setSp s.hl).took 8)

/-- R322: PUSH BC. -/
def execPush_BC (s : State) : Result := push .bc s

/-- R322: PUSH DE. -/
def execPush_DE (s : State) : Result := push .de s

/-- R322: PUSH HL. -/
def execPush_HL (s : State) : Result := push .hl s

/-- R322: PUSH AF. -/
def execPush_AF (s : State) : Result := push .af s

/-- R323: POP BC. -/
def execPop_BC (s : State) : Result := pop .bc s

/-- R323: POP DE. -/
def execPop_DE (s : State) : Result := pop .de s

/-- R323: POP HL. -/
def execPop_HL (s : State) : Result := pop .hl s

/-- R324: POP AF. -/
def execPop_AF (s : State) : Result := .next ((s.dropTop16.setAf s.top16).took 12)

end Sys2Proof.Machine
end

