-- ==== Sys2Proof/Machine/RotateShift.lean ====
section
/-!
DEFINITION. Rotates, shifts and SWAP (43_rotate_shift_bit.md sections 1 and 2, R430 to R450).
-/
namespace Sys2Proof.Machine

/-! ### Shared operations -/

/-- R430 to R433: an accumulator rotate, which is the rotate `k` of R434 with Z cleared. -/
def rotateAcc (k : ShiftOp) (s : State) : Result :=
  let a := s.reg8 .a
  .next (((s.setReg8 .a (shift8Result k a s.flags.c)).setFlags (accRotateFlags (shift8Carry k a))).took 4)

/-- R434: the register form of a CB-page rotate or shift, 8 cycles. -/
def shiftInReg (k : ShiftOp) (r : Reg8) (s : State) : Result :=
  let v := s.reg8 r
  .next (((s.setReg8 r (shift8Result k v s.flags.c)).setFlags (shift8Flags k v s.flags.c)).took 8)

/-- R434: the (HL) form, 16 cycles. -/
def shiftAtHl (k : ShiftOp) (s : State) : Result :=
  let v := s.read s.hl
  .next (((s.write s.hl (shift8Result k v s.flags.c)).setFlags (shift8Flags k v s.flags.c)).took 16)

/-! ### The instructions -/

/-- R430: RLCA. -/
def execRlca (s : State) : Result := rotateAcc .rlc s

/-- R431: RRCA. -/
def execRrca (s : State) : Result := rotateAcc .rrc s

/-- R432: RLA. -/
def execRla (s : State) : Result := rotateAcc .rl s

/-- R433: RRA. -/
def execRra (s : State) : Result := rotateAcc .rr s

/-- R435: RLC B. -/
def execRlc_B (s : State) : Result := shiftInReg .rlc .b s

/-- R435: RLC C. -/
def execRlc_C (s : State) : Result := shiftInReg .rlc .c s

/-- R435: RLC D. -/
def execRlc_D (s : State) : Result := shiftInReg .rlc .d s

/-- R435: RLC E. -/
def execRlc_E (s : State) : Result := shiftInReg .rlc .e s

/-- R435: RLC H. -/
def execRlc_H (s : State) : Result := shiftInReg .rlc .h s

/-- R435: RLC L. -/
def execRlc_L (s : State) : Result := shiftInReg .rlc .l s

/-- R435: RLC A. -/
def execRlc_A (s : State) : Result := shiftInReg .rlc .a s

/-- R436: RLC (HL). -/
def execRlc_atHL (s : State) : Result := shiftAtHl .rlc s

/-- R437: RRC B. -/
def execRrc_B (s : State) : Result := shiftInReg .rrc .b s

/-- R437: RRC C. -/
def execRrc_C (s : State) : Result := shiftInReg .rrc .c s

/-- R437: RRC D. -/
def execRrc_D (s : State) : Result := shiftInReg .rrc .d s

/-- R437: RRC E. -/
def execRrc_E (s : State) : Result := shiftInReg .rrc .e s

/-- R437: RRC H. -/
def execRrc_H (s : State) : Result := shiftInReg .rrc .h s

/-- R437: RRC L. -/
def execRrc_L (s : State) : Result := shiftInReg .rrc .l s

/-- R437: RRC A. -/
def execRrc_A (s : State) : Result := shiftInReg .rrc .a s

/-- R438: RRC (HL). -/
def execRrc_atHL (s : State) : Result := shiftAtHl .rrc s

/-- R439: RL B. -/
def execRl_B (s : State) : Result := shiftInReg .rl .b s

/-- R439: RL C. -/
def execRl_C (s : State) : Result := shiftInReg .rl .c s

/-- R439: RL D. -/
def execRl_D (s : State) : Result := shiftInReg .rl .d s

/-- R439: RL E. -/
def execRl_E (s : State) : Result := shiftInReg .rl .e s

/-- R439: RL H. -/
def execRl_H (s : State) : Result := shiftInReg .rl .h s

/-- R439: RL L. -/
def execRl_L (s : State) : Result := shiftInReg .rl .l s

/-- R439: RL A. -/
def execRl_A (s : State) : Result := shiftInReg .rl .a s

/-- R440: RL (HL). -/
def execRl_atHL (s : State) : Result := shiftAtHl .rl s

/-- R441: RR B. -/
def execRr_B (s : State) : Result := shiftInReg .rr .b s

/-- R441: RR C. -/
def execRr_C (s : State) : Result := shiftInReg .rr .c s

/-- R441: RR D. -/
def execRr_D (s : State) : Result := shiftInReg .rr .d s

/-- R441: RR E. -/
def execRr_E (s : State) : Result := shiftInReg .rr .e s

/-- R441: RR H. -/
def execRr_H (s : State) : Result := shiftInReg .rr .h s

/-- R441: RR L. -/
def execRr_L (s : State) : Result := shiftInReg .rr .l s

/-- R441: RR A. -/
def execRr_A (s : State) : Result := shiftInReg .rr .a s

/-- R442: RR (HL). -/
def execRr_atHL (s : State) : Result := shiftAtHl .rr s

/-- R443: SLA B. -/
def execSla_B (s : State) : Result := shiftInReg .sla .b s

/-- R443: SLA C. -/
def execSla_C (s : State) : Result := shiftInReg .sla .c s

/-- R443: SLA D. -/
def execSla_D (s : State) : Result := shiftInReg .sla .d s

/-- R443: SLA E. -/
def execSla_E (s : State) : Result := shiftInReg .sla .e s

/-- R443: SLA H. -/
def execSla_H (s : State) : Result := shiftInReg .sla .h s

/-- R443: SLA L. -/
def execSla_L (s : State) : Result := shiftInReg .sla .l s

/-- R443: SLA A. -/
def execSla_A (s : State) : Result := shiftInReg .sla .a s

/-- R444: SLA (HL). -/
def execSla_atHL (s : State) : Result := shiftAtHl .sla s

/-- R445: SRA B. -/
def execSra_B (s : State) : Result := shiftInReg .sra .b s

/-- R445: SRA C. -/
def execSra_C (s : State) : Result := shiftInReg .sra .c s

/-- R445: SRA D. -/
def execSra_D (s : State) : Result := shiftInReg .sra .d s

/-- R445: SRA E. -/
def execSra_E (s : State) : Result := shiftInReg .sra .e s

/-- R445: SRA H. -/
def execSra_H (s : State) : Result := shiftInReg .sra .h s

/-- R445: SRA L. -/
def execSra_L (s : State) : Result := shiftInReg .sra .l s

/-- R445: SRA A. -/
def execSra_A (s : State) : Result := shiftInReg .sra .a s

/-- R446: SRA (HL). -/
def execSra_atHL (s : State) : Result := shiftAtHl .sra s

/-- R447: SWAP B. -/
def execSwap_B (s : State) : Result := shiftInReg .swap .b s

/-- R447: SWAP C. -/
def execSwap_C (s : State) : Result := shiftInReg .swap .c s

/-- R447: SWAP D. -/
def execSwap_D (s : State) : Result := shiftInReg .swap .d s

/-- R447: SWAP E. -/
def execSwap_E (s : State) : Result := shiftInReg .swap .e s

/-- R447: SWAP H. -/
def execSwap_H (s : State) : Result := shiftInReg .swap .h s

/-- R447: SWAP L. -/
def execSwap_L (s : State) : Result := shiftInReg .swap .l s

/-- R447: SWAP A. -/
def execSwap_A (s : State) : Result := shiftInReg .swap .a s

/-- R448: SWAP (HL). -/
def execSwap_atHL (s : State) : Result := shiftAtHl .swap s

/-- R449: SRL B. -/
def execSrl_B (s : State) : Result := shiftInReg .srl .b s

/-- R449: SRL C. -/
def execSrl_C (s : State) : Result := shiftInReg .srl .c s

/-- R449: SRL D. -/
def execSrl_D (s : State) : Result := shiftInReg .srl .d s

/-- R449: SRL E. -/
def execSrl_E (s : State) : Result := shiftInReg .srl .e s

/-- R449: SRL H. -/
def execSrl_H (s : State) : Result := shiftInReg .srl .h s

/-- R449: SRL L. -/
def execSrl_L (s : State) : Result := shiftInReg .srl .l s

/-- R449: SRL A. -/
def execSrl_A (s : State) : Result := shiftInReg .srl .a s

/-- R450: SRL (HL). -/
def execSrl_atHL (s : State) : Result := shiftAtHl .srl s

end Sys2Proof.Machine
end

