-- ==== Sys2Proof/Machine/System.lean ====
section
/-!
DEFINITION. System instructions and the unassigned opcodes (45_system.md, R500 to R505).
-/
namespace Sys2Proof.Machine

/-! ### Shared operations -/

/-- R505: ILLEGAL, by the `illegal_opcode_mode`. PC is already past the byte, so the recorded pc is PC - 1. -/
def illegalOpcode (op : Byte) (s : State) : Result :=
  match s.illegalMode with
  | .lock => .next ((s.raiseIllegalOpcode (s.pc - 1#16) op).took 4)
  | .nop => .next (s.took 4)

/-! ### The instructions -/

/-- R500: NOP. -/
def execNop (s : State) : Result := .next (s.took 4)

/-- R501: HALT. -/
def execHalt (s : State) : Result := .next ((s.setMode .halted).took 4)

/-- R502: STOP. -/
def execStop (_ignored : Byte) (s : State) : Result := .next ((s.setMode .stopped).took 4)

/-- R503: DI. -/
def execDi (s : State) : Result := .next (((s.setIme false).setEiDelay 0).took 4)

/-- R504: EI. -/
def execEi (s : State) : Result := .next ((if s.cpu.eiDelay = 0 then s.setEiDelay 2 else s).took 4)

/-- R505: ILLEGAL. -/
def execIllegal (op : Byte) (s : State) : Result := illegalOpcode op s

end Sys2Proof.Machine
end

