-- ==== Sys2Proof/Machine/Driver.lean ====
section
/-!
DEFINITION. The core's entry points (R690): the CPU's `Step()` (R530), the devices' `Tick()` (R692), the driver's loop
body that puts them together (R691), and what the host calls between steps: construction (R693), `set_buttons` (R662),
`sram_snapshot` (R230), `run_frame` (R691) and the framebuffer view (R696).
-/
namespace Sys2Proof.Machine

/-! ### The CPU step -/

/-- R530: the EI latch at the start of a step: a pending enable counts down and, at 0, sets IME. -/
def State.matureEi (s : State) : State :=
  if s.cpu.eiDelay = 0 then s
  else (s.setEiDelay (s.cpu.eiDelay - 1)).setIme (s.cpu.ime || decide (s.cpu.eiDelay - 1 = 0))

/-- R530: the one architectural event of a step. -/
inductive StepEvent where
  /-- Nothing is executed; the step returns this exit reason. -/
  | idle (exit : ExitReason)
  | service (i : Interrupt)
  | fetch
  deriving DecidableEq, Repr

/-- R530: service the lowest pending interrupt when IME is 1, else fetch. -/
def State.serviceOrFetch (s : State) : StepEvent :=
  if s.cpu.ime then
    match lowestPending s.pending with
    | some i => .service i
    | none => .fetch
  else .fetch

/-- R530, R535: the event of a step, once the EI latch has been dealt with. -/
def State.nextEvent (s : State) : StepEvent :=
  match s.cpu.mode with
  | .locked => .idle .locked
  | .stopped => .idle .stopped
  | .halted => if s.pending = 0#5 then .idle .halt else s.serviceOrFetch
  | .running => s.serviceOrFetch

/-- R530: the CPU is running when it services or fetches; a halted CPU leaves halt. -/
def State.wake (s : State) : State := s.setMode .running

/-- R530: the values `Step()` returns. -/
def State.returns (s : State) (cycles : Nat) (exit : ExitReason) : State :=
  { s with host := { s.host with cycles := cycles, exit := exit } }

/-- R531: `ExitOf`. -/
def exitOf : CpuMode → ExitReason
  | .running => .step
  | .halted => .halt
  | .stopped => .stopped
  | .locked => .locked

/-- R531: the exit reason of a step that ran an instruction. -/
def State.setExit (s : State) : State := { s with host := { s.host with exit := exitOf s.cpu.mode } }

/-- R53, R166: the three bytes from PC on, of which the instruction is the first ones. Reading a byte past the
instruction changes nothing (R164). -/
def State.bytesAtPc (s : State) : List Byte := [s.read s.pc, s.read (s.pc + 1#16), s.read (s.pc + 2#16)]

/-- R166: the instruction at PC. -/
def State.instrAtPc (s : State) : Instr :=
  decodeBytes (s.read s.pc) (s.read (s.pc + 1#16)) (s.read (s.pc + 2#16))

/-- R53: PC moved past the instruction at PC. -/
def State.pastInstr (s : State) : State := s.setPc (s.pc + BitVec.ofNat 16 (opcodeLength (s.read s.pc)))

/-- Apply a function to the next state of a result. -/
def mapNext (f : State → State) : Result → Result
  | .next s => .next (f s)
  | .fault r => .fault r
  | .refused r => .refused r

/-- R530: fetch the instruction at PC and execute it. -/
def State.runInstr (s : State) : Result := mapNext State.setExit (exec s.instrAtPc s.pastInstr)

/-- R530: `Step()`; the count and the exit reason it returns stand in `host`. -/
def cpuStep (s : State) : Result :=
  let s := s.matureEi
  match s.nextEvent with
  | .idle exit => .next (s.returns Config.idleCycles exit)
  | .service i => .next ((s.wake.service i).returns Config.serviceCycles .interruptTaken)
  | .fetch => s.wake.runInstr

/-! ### The devices' tick -/

/-- R692: the timer's part of a tick, with its interrupt request. -/
def State.tickTimer (s : State) : State :=
  { s with timer := s.timer.tick }.request .timer s.timer.reloads

/-- R692: the PPU's part of a tick, with its interrupt requests. -/
def State.tickPpu (s : State) : State :=
  ({ s with ppu := s.ppu.tick s.vram s.oam }.request .vblank s.ppu.entersVblank).request .lcd
    (s.ppu.statRises s.vram s.oam)

/-- R692: `Tick()`, timer first. -/
def State.tick (s : State) : State := s.tickTimer.tickPpu

/-- R691: `repeat c times: Tick()`. -/
def State.tickN : Nat → State → State
  | 0, s => s
  | n + 1, s => State.tickN n s.tick

/-- R691: the driver's loop body: one CPU step, then the devices by the count it returned (log entry 5). -/
def advance (s : State) : Result := mapNext (fun t => t.tickN t.host.cycles) (cpuStep s)

/-! ### Host calls -/

/-- R693, R205: `new`. The open parameters of R9 are arguments. -/
def new (image : List Byte) (sramBytes : Option (List Byte)) (ram : RamInit) (illegalMode : IllegalOpcodeMode) :
    Result :=
  match Cart.ofImage image sramBytes with
  | some cart => .next (.postBoot cart ram illegalMode)
  | none => .fault .malformedRom

/-- R662: `set_buttons(mask)`. -/
def State.setButtons (s : State) (mask : Byte) : State :=
  { s with joypad := { s.joypad with buttons := mask } }.request .joypad
    (decide (mask &&& ~~~s.joypad.buttons ≠ 0x00#8))

/-- R230: `sram_snapshot()`. -/
def State.sramSnapshot (s : State) : List Byte := s.cart.sramSnapshot

/-- R696: the framebuffer view, the pixel in a row and column. -/
def State.pixelAt (s : State) (row column : Nat) : BitVec 2 :=
  Store.read s.ppu.framebuffer (row * Config.screenWidth + column)

/-- R691: the loop of `run_frame`, for at most `fuel` steps; `none` when no frame has ended by then. -/
def State.frameLoop : Nat → State → Option State
  | 0, _ => none
  | fuel + 1, s =>
    match advance s with
    | .next t => if t.ppu.frameReady then some t else State.frameLoop fuel t
    | .fault _ => none
    | .refused _ => none

/-- R691: `run_frame()`, for at most `fuel` steps; the frame it returns is the result's framebuffer. -/
def State.runFrame (fuel : Nat) (s : State) : Option State :=
  State.frameLoop fuel { s with ppu := { s.ppu with frameReady := false } }

/-! ### Placing an instruction -/

/-- Whether the byte at an address is a byte of a memory array, so that an instruction can be placed there. -/
def State.holdsBytes (s : State) (a : Word) : Bool :=
  match regionOf a with
  | .cartRom _ => true
  | .vram _ => true
  | .cartRam a =>
    match s.cart.ramWindow a with
    | .sram _ => true
    | .closed => false
    | .rtc _ => false
  | .wram _ => true
  | .oam _ => true
  | .prohibited => false
  | .io _ => false
  | .hram _ => true
  | .intEnable => false

/-- Put a byte into the memory array that an address reads, ROM included: what the outside does when it supplies the
program. This is no bus write. -/
def State.place (s : State) (a : Word) (v : Byte) : State :=
  match regionOf a with
  | .cartRom a => { s with cart := { s.cart with rom := Store.write s.cart.rom (s.cart.romWindow a) v } }
  | .vram off => { s with vram := Store.write s.vram off v }
  | .cartRam a =>
    match s.cart.ramWindow a with
    | .sram index => { s with cart := { s.cart with sram := Store.write s.cart.sram index v } }
    | .closed => s
    | .rtc _ => s
  | .wram off => { s with wram := Store.write s.wram off v }
  | .oam off => { s with oam := Store.write s.oam off v }
  | .prohibited => s
  | .io _ => s
  | .hram off => { s with hram := Store.write s.hram off v }
  | .intEnable => s

/-- A state whose next step fetches: the state itself if it does, else the state with the CPU running and no interrupt
taken. -/
def State.readyToFetch (s : State) : State :=
  if s.matureEi.nextEvent = .fetch then s else ((s.setMode .running).setIme false).setEiDelay 0

/-- A state whose PC stands in memory arrays: the state itself if it does, else the state with PC in work RAM. -/
def State.pcInMemory (s : State) : State :=
  if s.holdsBytes s.pc && s.holdsBytes (s.pc + 1#16) && s.holdsBytes (s.pc + 2#16) then s else s.setPc 0xC000#16

/-- Place the three bytes at PC, in a state whose next step fetches them (log entry 7). -/
def State.placeInstr (s : State) (b0 b1 b2 : Byte) : State :=
  let s := s.readyToFetch.pcInMemory
  ((s.place s.pc b0).place (s.pc + 1#16) b1).place (s.pc + 2#16) b2

/-- The bytes of a word of the opcode table, placed. -/
def State.placeTableWord (s : State) (nbits w : Nat) : State :=
  let bytes := tableBytes nbits w
  s.placeInstr (bytes.getD 0 0#8) (bytes.getD 1 0#8) (bytes.getD 2 0#8)

end Sys2Proof.Machine
end

