-- ==== Sys2Proof/Machine/Step.lean ====
section
/-!
DEFINITION. One step of the machine: the driver's loop body of R691, that is the CPU's `Step()` and then the devices'
ticks for the cycles it returned.
-/
namespace Sys2Proof.Machine

/-- R691: one step of the machine. -/
def step (s : State) : Host.Outcome State Fault Refusal := advance s

/-- The state with an instruction of the opcode table stored where the next step fetches it. -/
def State.withFetchWord (s : State) (nbits w : Nat) : State := s.placeTableWord nbits w

end Sys2Proof.Machine
end

