-- ==== Sys2Proof/Safety.lean ====
section
/-!
DEFINITION. The terms in which claims are stated: the fields of an encoding (R252 to R255, R350, R434), a faulted state
(R78, R699), the invariant that every step keeps, and frames: what an instruction leaves unchanged.
-/
namespace Sys2Proof

/-! ### The fields of an encoding -/

/-- R252: the three-bit field of an 8-bit register; 6 is (HL). -/
def Reg8.field : Reg8 → BitVec 3
  | .b => 0#3
  | .c => 1#3
  | .d => 2#3
  | .e => 3#3
  | .h => 4#3
  | .l => 5#3
  | .a => 7#3

/-- R253: the two-bit field rr. -/
def Reg16.field : Reg16 → BitVec 2
  | .bc => 0#2
  | .de => 1#2
  | .hl => 2#2
  | .sp => 3#2

/-- R254: the two-bit field qq of PUSH. -/
def PushReg.field : PushReg → BitVec 2
  | .bc => 0#2
  | .de => 1#2
  | .hl => 2#2
  | .af => 3#2

/-- R254: the two-bit field qq of a POP of a pair other than AF. -/
def PopReg.field : PopReg → BitVec 2
  | .bc => 0#2
  | .de => 1#2
  | .hl => 2#2

/-- R255: the two-bit field cc. -/
def Cond.field : Cond → BitVec 2
  | .nz => 0#2
  | .z => 1#2
  | .nc => 2#2
  | .c => 3#2

/-- R50: the two halves of a pair; SP has none. -/
def Reg16.halves : Reg16 → List Reg8
  | .bc => [.b, .c]
  | .de => [.d, .e]
  | .hl => [.h, .l]
  | .sp => []

/-- R50: the high half of a pair POP pops. -/
def PopReg.first : PopReg → Reg8
  | .bc => .b
  | .de => .d
  | .hl => .h

/-- R50: the low half of a pair POP pops. -/
def PopReg.second : PopReg → Reg8
  | .bc => .c
  | .de => .e
  | .hl => .l

/-- R351: the three-bit field of an ALU operation. -/
def AluOp.field : AluOp → BitVec 3
  | .add => 0#3
  | .adc => 1#3
  | .sub => 2#3
  | .sbc => 3#3
  | .and => 4#3
  | .xor => 5#3
  | .or => 6#3
  | .cp => 7#3

/-- R434: the three-bit field of a CB-page rotate or shift. -/
def ShiftOp.field : ShiftOp → BitVec 3
  | .rlc => 0#3
  | .rrc => 1#3
  | .rl => 2#3
  | .rr => 3#3
  | .sla => 4#3
  | .sra => 5#3
  | .swap => 6#3
  | .srl => 7#3

namespace Machine

/-- R255: `Cond(cc)` on the flags. -/
def Flags.Meets (f : Flags) : Cond → Prop
  | .nz => f.z = false
  | .z => f.z = true
  | .nc => f.c = false
  | .c => f.c = true

/-! ### Faulted states -/

/-- R78, R699: "A state whose `fault_record` is not `none` is a faulted state, not a normal end." -/
def State.faulted (s : State) : Prop := s.cpu.faultRecord ≠ none

/-! ### The invariant -/

/-- Log entry 1: every memory and the framebuffer are in canonical form, with no entry outside the array. -/
structure State.CanonicalMemory (s : State) : Prop where
  vram : Memory.wf Config.vramBytes s.vram = true
  wram : Memory.wf Config.wramBytes s.wram = true
  oam : Memory.wf Config.oamBytes s.oam = true
  hram : Memory.wf Config.hramBytes s.hram = true
  rom : Memory.wf (s.cart.romBanks * Config.romBankBytes) s.cart.rom = true
  sram : Memory.wf s.cart.ramSize s.cart.sram = true
  framebuffer : Store.wf (Config.screenWidth * Config.visibleLines) s.ppu.framebuffer = true

/-- R203 to R205: the sizes a constructed cartridge has. -/
structure Cart.Legal (c : Cart) : Prop where
  romBanks : c.romBanks ∈ [2, 4, 8, 16, 32, 64, 128, 256, 512]
  ramSize : c.ramSize ∈ [0, 2048, 8192, 32768, 131072, 65536]
  romOnly : c.mapper = .romOnly → c.romBanks = 2

/-- R56, R57, R78, R520: the CPU's control state. A fault is recorded exactly when the CPU is locked, and never under
`illegal_opcode_mode = Nop`. -/
structure State.LegalControl (s : State) : Prop where
  eiDelay : s.cpu.eiDelay ≤ 2
  locked : s.cpu.mode = .locked ↔ s.faulted
  nop : s.illegalMode = .nop → ¬ s.faulted

/-- R64, R71, R601, R604, R605: the counters' ranges; with the LCD on the mode is the one of LY and dot, with the LCD
off LY, dot, mode and the STAT line are 0. -/
structure Ppu.Legal (p : Ppu) : Prop where
  ly : p.ly.toNat < Config.linesPerFrame
  dot : p.dot < Config.dotsPerLine
  lcdOffDots : p.lcdOffDots < Config.dotsPerFrame
  on : p.lcdOn = true → p.mode = modeOf p.ly.toNat p.dot ∧ p.lcdOffDots = 0
  off : p.lcdOn = false → p.ly = 0x00#8 ∧ p.dot = 0 ∧ p.mode = .hblank ∧ p.statLine = false

/-- What holds of every state of a run. -/
structure State.Inv (s : State) : Prop where
  memory : s.CanonicalMemory
  cart : s.cart.Legal
  control : s.LegalControl
  reload : s.timer.reloadDelay ≤ Config.timaReloadDelay
  ppu : s.ppu.Legal

/-! ### Configuration -/

/-- R73: the mapper's kind, without its registers. -/
inductive MapperKind where
  | romOnly
  | mbc1
  | mbc3
  deriving DecidableEq, Repr

/-- R73: which mapper a cartridge has. -/
def Mapper.kind : Mapper → MapperKind
  | .romOnly => .romOnly
  | .mbc1 _ => .mbc1
  | .mbc3 _ => .mbc3

/-- R77: the configuration, with the ROM (R58, R152), is the same. -/
structure SameConfig (s t : State) : Prop where
  romBanks : t.cart.romBanks = s.cart.romBanks
  ramSize : t.cart.ramSize = s.cart.ramSize
  mapper : t.cart.mapper.kind = s.cart.mapper.kind
  rom : t.cart.rom = s.cart.rom
  illegalMode : t.illegalMode = s.illegalMode

/-! ### Frames -/

/-- Everything but the CPU and the count the step returns is the same: the memories, the cartridge, the devices, IF,
IE, DMA, the configuration and what went to the host. -/
def SameOutside (s t : State) : Prop :=
  { t with cpu := s.cpu, host := { t.host with cycles := s.host.cycles } } = s

/-- The CPU's control state is the same: IME, the EI latch, the mode and the fault record. -/
structure SameControl (s t : State) : Prop where
  ime : t.cpu.ime = s.cpu.ime
  eiDelay : t.cpu.eiDelay = s.cpu.eiDelay
  mode : t.cpu.mode = s.cpu.mode
  faultRecord : t.cpu.faultRecord = s.cpu.faultRecord

/-- Every 8-bit register but the listed ones is the same. -/
def SameReg8 (written : List Reg8) (s t : State) : Prop := ∀ r, r ∉ written → t.reg8 r = s.reg8 r

/-- Every 8-bit register but the listed ones, SP and PC are the same. PC is the address after the instruction (R12). -/
structure SameRegisters (written : List Reg8) (s t : State) : Prop where
  reg8 : SameReg8 written s t
  sp : t.sp = s.sp
  pc : t.pc = s.pc

/-- Every byte of memory reads as before. -/
def SameReads (s t : State) : Prop := ∀ a, t.read a = s.read a

/-- What an instruction that stores nothing leaves unchanged, apart from SP, PC and the listed registers. The flags are
stated beside it. -/
structure QuietFrame (s t : State) : Prop where
  control : SameControl s t
  outside : SameOutside s t
  reads : SameReads s t

/-- R165: the I/O registers whose reading a write to one of them can change. -/
def ioReaches (r : IoReg) (g : Region) : Bool :=
  match r with
  | .div => decide (g = .io .div) || decide (g = .io .tima)
  | .tac => decide (g = .io .tac) || decide (g = .io .tima)
  | .lcdc => decide (g = .io .lcdc) || decide (g = .io .stat) || decide (g = .io .ly)
  | .lyc => decide (g = .io .lyc) || decide (g = .io .stat)
  | .dma =>
    match g with
    | .oam _ => true
    | .io q => decide (q = .dma)
    | _ => false
  | .sound => false
  | .ly => false
  | .unmapped => false
  | .p1 => decide (g = .io .p1)
  | .sb => decide (g = .io .sb)
  | .sc => decide (g = .io .sc)
  | .tima => decide (g = .io .tima)
  | .tma => decide (g = .io .tma)
  | .intFlag => decide (g = .io .intFlag)
  | .stat => decide (g = .io .stat)
  | .scy => decide (g = .io .scy)
  | .scx => decide (g = .io .scx)
  | .bgp => decide (g = .io .bgp)
  | .obp0 => decide (g = .io .obp0)
  | .obp1 => decide (g = .io .obp1)
  | .wy => decide (g = .io .wy)
  | .wx => decide (g = .io .wx)

/-- R165: whether a bus write to `a` can change what `b` reads as: the byte itself and its echo (R156); for a mapper
register, the switched ROM bank and the RAM window; for an I/O register, the registers its rule names and, for DMA,
OAM. -/
def State.writeReaches (s : State) (a b : Word) : Bool :=
  match regionOf a with
  | .cartRom _ =>
    match s.cart.mapper, regionOf b with
    | .romOnly, _ => false
    | _, .cartRom x => decide (0x4000 ≤ x.toNat)
    | _, .cartRam _ => true
    | _, _ => false
  | .cartRam x =>
    match s.cart.ramWindow x, regionOf b with
    | .sram index, .cartRam y => decide (s.cart.ramWindow y = .sram index)
    | _, _ => false
  | .vram off => decide (regionOf b = .vram off)
  | .wram off => decide (regionOf b = .wram off)
  | .oam off => decide (regionOf b = .oam off)
  | .prohibited => false
  | .io r => ioReaches r (regionOf b)
  | .hram off => decide (regionOf b = .hram off)
  | .intEnable => decide (regionOf b = .intEnable)

/-- R153, R155, R157, R159, R215, R217: whether an address is a byte of RAM, which a write stores to and a read returns
from. -/
def State.isRam (s : State) (a : Word) : Bool :=
  match regionOf a with
  | .vram _ => true
  | .wram _ => true
  | .oam _ => true
  | .hram _ => true
  | .cartRam x =>
    match s.cart.ramWindow x with
    | .sram _ => true
    | .closed => false
    | .rtc _ => false
  | .cartRom _ => false
  | .prohibited => false
  | .io _ => false
  | .intEnable => false

/-- What an instruction that stores one byte leaves unchanged, apart from SP, PC and the listed registers: outside the
CPU, everything is as the one bus write of `v` to `a` leaves it; every address that write does not reach reads as
before; and a byte of RAM reads as the stored value. -/
structure StoreFrame (a : Word) (v : Byte) (s t : State) : Prop where
  control : SameControl s t
  outside : SameOutside (s.write a v) t
  reads : ∀ b, s.writeReaches a b = false → t.read b = s.read b
  stored : s.CanonicalMemory → s.isRam a = true → t.read a = v

/-- What an instruction that stores two bytes, first `v1` to `a1` and then `v2` to `a2`, leaves unchanged. -/
structure StoreTwoFrame (a1 : Word) (v1 : Byte) (a2 : Word) (v2 : Byte) (s t : State) : Prop where
  outside : SameOutside ((s.write a1 v1).write a2 v2) t
  reads : ∀ b, s.writeReaches a1 b = false → (s.write a1 v1).writeReaches a2 b = false → t.read b = s.read b
  stored : s.CanonicalMemory → s.isRam a1 = true → s.isRam a2 = true → s.writeReaches a2 a1 = false →
    t.read a1 = v1 ∧ t.read a2 = v2

/-! ### Completion -/

/-- The instruction `i`, whose bytes are `bytes` (R12: its encoding), run on `s`, answers a next state `t` that says the
instruction took `cycles` T-cycles, and `P t` holds. -/
def Completes (i : Instr) (bytes : List Byte) (cycles : Nat) (s : State) (P : State → Prop) : Prop :=
  encode i = bytes ∧ ∃ t, exec i s = .next t ∧ t.host.cycles = cycles ∧ P t

/-! ### Cycles of the devices -/

/-- R605: the dots since the start of a frame, for a PPU whose LCD is on. -/
def Ppu.position (p : Ppu) : Nat := p.ly.toNat * Config.dotsPerLine + p.dot

/-- R573: the period of TIMA in T-cycles that TAC[1:0] selects. -/
def Timer.period (tac : BitVec 3) : Nat :=
  match (tac.extractLsb' 0 2).toNat with
  | 0 => 1024
  | 1 => 16
  | 2 => 64
  | _ => 256

end Machine
end Sys2Proof
end

