-- ==== Sys2Proof/Certificates/Slice0/Obligations.lean ====
section
/-!
DEFINITION. The statements for the provers. The tables before them restate rules of the spec in the arithmetic the
spec uses, on numbers, apart from the model's own definitions.
-/
namespace Sys2Proof.Machine

/-! ### Tables of the spec, as numbers -/

/-- R350, ADD and ADC: A, an operand and a carry-in give `res` and the flags. -/
structure AddsInto (a v cin : Nat) (res : Byte) (f : Flags) : Prop where
  res : res.toNat = (a + v + cin) % 256
  z : f.z = true ↔ (a + v + cin) % 256 = 0
  n : f.n = false
  h : f.h = true ↔ a % 16 + v % 16 + cin > 0xF
  c : f.c = true ↔ a + v + cin > 0xFF

/-- R350, SUB, SBC and CP: the flags, and `diff` the result modulo 256. -/
structure SubtractsInto (a v cin : Nat) (diff : Int) (f : Flags) : Prop where
  value : diff = ((a : Int) - v - cin) % 256
  z : f.z = true ↔ diff = 0
  n : f.n = true
  h : f.h = true ↔ a % 16 < v % 16 + cin
  c : f.c = true ↔ a < v + cin

/-- R434: the result of `Shift8(kind, v, cin)`. -/
def shiftTable (k : ShiftOp) (v cin : Nat) : Nat :=
  match k with
  | .rlc => (2 * v + v / 128) % 256
  | .rrc => v / 2 + 128 * (v % 2)
  | .rl => (2 * v + cin) % 256
  | .rr => v / 2 + 128 * cin
  | .sla => 2 * v % 256
  | .sra => v / 2 + (if 128 ≤ v then 128 else 0)
  | .swap => 16 * (v % 16) + v / 16
  | .srl => v / 2

/-- R434: the carry of `Shift8(kind, v, cin)`. -/
def shiftOutTable (k : ShiftOp) (v : Nat) : Bool :=
  match k with
  | .rlc => decide (128 ≤ v)
  | .rl => decide (128 ≤ v)
  | .sla => decide (128 ≤ v)
  | .rrc => decide (v % 2 = 1)
  | .rr => decide (v % 2 = 1)
  | .sra => decide (v % 2 = 1)
  | .srl => decide (v % 2 = 1)
  | .swap => false

/-- R380: A and the carry after the DAA algorithm, before the reduction modulo 256. -/
def daaTable (a : Int) (n h c : Bool) : Int × Bool :=
  if n then
    let a1 := if c then a - 0x60 else a
    (if h then a1 - 0x06 else a1, c)
  else
    let a1 := if c || decide (a > 0x99) then a + 0x60 else a
    (if h || decide (a1 % 16 > 0x09) then a1 + 0x06 else a1, c || decide (a > 0x99))

/-- The byte of a two-digit decimal number in BCD. -/
def bcd (x : Nat) : Byte := BitVec.ofNat 8 (16 * (x / 10) + x % 10)

end Sys2Proof.Machine

open Sys2Proof Sys2Proof.Machine

/-! ### Encoding -/

/-- R250 to R261: decoding the bytes of any instruction, with anything after them, gives the instruction back with every
operand. -/
def Obligations.DecodeInvertsEncode : Prop :=
  ∀ (i : Instr) (rest : List Byte), i.wellFormed = true → decode (encode i ++ rest) = .ok (i, rest)

/-- R250 to R261: what the decoder reads is well formed, and its bytes are the ones that were read. -/
def Obligations.EncodeInvertsDecode : Prop :=
  ∀ (bytes rest : List Byte) (i : Instr),
    decode bytes = .ok (i, rest) → i.wellFormed = true ∧ encode i ++ rest = bytes

/-- R250, R260: an instruction's length is 1, 2 or 3, by its opcode byte alone; a list with that many bytes decodes, a
shorter one is rejected as truncated; and exactly the eleven unassigned bytes decode to ILLEGAL, one byte long. -/
def Obligations.DecodeTotalByOpcodeByte : Prop :=
  decode [] = .error .noOpcode ∧
  ∀ (op : Byte) (tail : List Byte),
    (opcodeLength op = 1 ∨ opcodeLength op = 2 ∨ opcodeLength op = 3) ∧
    (opcodeLength op ≤ (op :: tail).length →
      ∃ i, decode (op :: tail) = .ok (i, (op :: tail).drop (opcodeLength op)) ∧ (encode i).length = opcodeLength op) ∧
    ((op :: tail).length < opcodeLength op → decode (op :: tail) = .error .truncated) ∧
    (op ∈ [0xD3#8, 0xDB#8, 0xDD#8, 0xE3#8, 0xE4#8, 0xEB#8, 0xEC#8, 0xED#8, 0xF4#8, 0xFC#8, 0xFD#8] →
      decode (op :: tail) = .ok (.illegal op, tail)) ∧
    (op ∉ [0xD3#8, 0xDB#8, 0xDD#8, 0xE3#8, 0xE4#8, 0xEB#8, 0xEC#8, 0xED#8, 0xF4#8, 0xFC#8, 0xFD#8] →
      ∀ x rest, decode (op :: tail) ≠ .ok (.illegal x, rest))

/-- The words of a few instructions, bit by bit from the layouts of R258 and R259. -/
def Obligations.WrittenOutWordsDecode : Prop :=
  decode [0b01_000_001#8] = .ok (.ld_B_C, []) ∧
  decode [0b00_111_110#8, 0xA5#8] = .ok (.ld_A_n 0xA5#8, []) ∧
  decode [0b10_001_110#8] = .ok (.adc_A_atHL, []) ∧
  decode [0b00_11_1001#8] = .ok (.add_HL_SP, []) ∧
  decode [0b11001011#8, 0b01_111_100#8] = .ok (.bit_7_H, []) ∧
  decode [0b11_011_100#8, 0x00#8, 0x40#8] = .ok (.call_C_nn 0x4000#16, []) ∧
  decode [0b01_110_110#8] = .ok (.halt, []) ∧
  decode [0b11_010_011#8] = .ok (.illegal 0xD3#8, [])

/-! ### Loads and stores -/

/-- R300, R301, R302: LD r,r', LD r,n and LD r,(HL), for every register. -/
def Obligations.RegisterLoads : Prop :=
  (∀ (dst src : Reg8) (s : State),
    Completes (.ldReg dst src) [0b01#2 ++ dst.field ++ src.field] 4 s fun t =>
      t.reg8 dst = s.reg8 src ∧ t.flags = s.flags ∧ SameRegisters [dst] s t ∧ QuietFrame s t) ∧
  (∀ (dst : Reg8) (n : Byte) (s : State),
    Completes (.ldImm dst n) [0b00#2 ++ dst.field ++ 0b110#3, n] 8 s fun t =>
      t.reg8 dst = n ∧ t.flags = s.flags ∧ SameRegisters [dst] s t ∧ QuietFrame s t) ∧
  (∀ (dst : Reg8) (s : State),
    Completes (.ldFromHL dst) [0b01#2 ++ dst.field ++ 0b110#3] 8 s fun t =>
      t.reg8 dst = s.read s.hl ∧ t.flags = s.flags ∧ SameRegisters [dst] s t ∧ QuietFrame s t)

/-- R305, R306, R309, R311, R313: LD A,(BC), LD A,(DE), LD A,(nn), LDH A,(n) and LD A,(C); R315, R316: LD A,(HL+) and
LD A,(HL-), which also write HL. -/
def Obligations.AccumulatorLoads : Prop :=
  (∀ (n : Byte) (nn : Word) (s : State),
    let loads := fun (addr : Word) (t : State) =>
      t.reg8 .a = s.read addr ∧ t.flags = s.flags ∧ SameRegisters [.a] s t ∧ QuietFrame s t
    Completes .ld_A_atBC [0x0A#8] 8 s (loads s.bc) ∧
    Completes .ld_A_atDE [0x1A#8] 8 s (loads s.de) ∧
    Completes (.ld_A_atnn nn) [0xFA#8, lowByte nn, highByte nn] 16 s (loads nn) ∧
    Completes (.ldh_A_atn n) [0xF0#8, n] 12 s (loads (0xFF00#16 + n.zeroExtend 16)) ∧
    Completes .ld_A_atC [0xF2#8] 8 s (loads (0xFF00#16 + (s.reg8 .c).zeroExtend 16))) ∧
  (∀ (s : State),
    let loads := fun (hl : Word) (t : State) =>
      t.reg8 .a = s.read s.hl ∧ t.hl = hl ∧ t.flags = s.flags ∧ SameRegisters [.a, .h, .l] s t ∧ QuietFrame s t
    Completes .ld_A_atHLinc [0x2A#8] 8 s (loads (s.hl + 1#16)) ∧
    Completes .ld_A_atHLdec [0x3A#8] 8 s (loads (s.hl - 1#16)))

/-- R303, R304: LD (HL),r and LD (HL),n; R307, R308, R310, R312, R314: the stores of A; R317, R318: LD (HL+),A and
LD (HL-),A, which also write HL. Each is one bus write, at the address its rule gives. -/
def Obligations.ByteStores : Prop :=
  (∀ (r : Reg8) (n : Byte) (nn : Word) (s : State),
    let stores := fun (addr : Word) (v : Byte) (t : State) =>
      t.flags = s.flags ∧ SameRegisters [] s t ∧ StoreFrame addr v s t
    Completes (.ldToHL r) [0b01#2 ++ 0b110#3 ++ r.field] 8 s (stores s.hl (s.reg8 r)) ∧
    Completes (.ld_atHL_n n) [0x36#8, n] 12 s (stores s.hl n) ∧
    Completes .ld_atBC_A [0x02#8] 8 s (stores s.bc (s.reg8 .a)) ∧
    Completes .ld_atDE_A [0x12#8] 8 s (stores s.de (s.reg8 .a)) ∧
    Completes (.ld_atnn_A nn) [0xEA#8, lowByte nn, highByte nn] 16 s (stores nn (s.reg8 .a)) ∧
    Completes (.ldh_atn_A n) [0xE0#8, n] 12 s (stores (0xFF00#16 + n.zeroExtend 16) (s.reg8 .a)) ∧
    Completes .ld_atC_A [0xE2#8] 8 s (stores (0xFF00#16 + (s.reg8 .c).zeroExtend 16) (s.reg8 .a))) ∧
  (∀ (s : State),
    let stores := fun (hl : Word) (t : State) =>
      t.hl = hl ∧ t.flags = s.flags ∧ SameRegisters [.h, .l] s t ∧ StoreFrame s.hl (s.reg8 .a) s t
    Completes .ld_atHLinc_A [0x22#8] 8 s (stores (s.hl + 1#16)) ∧
    Completes .ld_atHLdec_A [0x32#8] 8 s (stores (s.hl - 1#16)))

/-- R319, R321: LD rr,nn and LD SP,HL. -/
def Obligations.PairLoads : Prop :=
  (∀ (rr : Reg16) (nn : Word) (s : State),
    Completes (.ld16 rr nn) [0b00#2 ++ rr.field ++ 0b0001#4, lowByte nn, highByte nn] 12 s fun t =>
      t.reg16 rr = nn ∧ t.flags = s.flags ∧ SameReg8 rr.halves s t ∧ (rr ≠ .sp → t.sp = s.sp) ∧ t.pc = s.pc ∧
      QuietFrame s t) ∧
  (∀ (s : State),
    Completes .ld_SP_HL [0xF9#8] 8 s fun t =>
      t.sp = s.hl ∧ t.flags = s.flags ∧ SameReg8 [] s t ∧ t.pc = s.pc ∧ QuietFrame s t)

/-- R320: LD (nn),SP stores SP's low byte at nn first, then its high byte at nn + 1; R322: PUSH qq stores the pair's high
byte at SP - 1 first, then its low byte at SP - 2, and takes 2 from SP. PUSH AF pushes F with its low four bits 0. -/
def Obligations.TwoByteStores : Prop :=
  (∀ (nn : Word) (s : State),
    Completes (.ld_atnn_SP nn) [0x08#8, lowByte nn, highByte nn] 20 s fun t =>
      t.flags = s.flags ∧ SameRegisters [] s t ∧ SameControl s t ∧
      StoreTwoFrame nn (lowByte s.sp) (nn + 1#16) (highByte s.sp) s t) ∧
  (∀ (s : State),
    let pushes := fun (hi lo : Byte) (t : State) =>
      t.sp = s.sp - 2#16 ∧ t.flags = s.flags ∧ SameReg8 [] s t ∧ t.pc = s.pc ∧ SameControl s t ∧
      StoreTwoFrame (s.sp - 1#16) hi (s.sp - 2#16) lo s t
    Completes .push_BC [0xC5#8] 16 s (pushes (s.reg8 .b) (s.reg8 .c)) ∧
    Completes .push_DE [0xD5#8] 16 s (pushes (s.reg8 .d) (s.reg8 .e)) ∧
    Completes .push_HL [0xE5#8] 16 s (pushes (s.reg8 .h) (s.reg8 .l)) ∧
    Completes .push_AF [0xF5#8] 16 s
      (pushes (s.reg8 .a)
        (BitVec.ofBool s.flags.z ++ BitVec.ofBool s.flags.n ++ BitVec.ofBool s.flags.h ++ BitVec.ofBool s.flags.c ++
          0b0000#4)))

/-- R323: POP qq takes the low half from SP and the high half from SP + 1 and adds 2 to SP; R324: POP AF takes A and the
four flags, whose byte's low four bits are dropped. -/
def Obligations.PairPops : Prop :=
  (∀ (qq : PopReg) (s : State),
    Completes (.popReg qq) [0b11#2 ++ qq.field ++ 0b0001#4] 12 s fun t =>
      t.reg8 qq.second = s.read s.sp ∧ t.reg8 qq.first = s.read (s.sp + 1#16) ∧ t.sp = s.sp + 2#16 ∧
      t.flags = s.flags ∧ SameReg8 [qq.first, qq.second] s t ∧ t.pc = s.pc ∧ QuietFrame s t) ∧
  (∀ (s : State),
    Completes .pop_AF [0xF1#8] 12 s fun t =>
      t.reg8 .a = s.read (s.sp + 1#16) ∧
      t.flags.z = (s.read s.sp).getLsbD 7 ∧ t.flags.n = (s.read s.sp).getLsbD 6 ∧
      t.flags.h = (s.read s.sp).getLsbD 5 ∧ t.flags.c = (s.read s.sp).getLsbD 4 ∧
      t.flags.toByte = s.read s.sp &&& 0xF0#8 ∧
      t.sp = s.sp + 2#16 ∧ SameReg8 [.a] s t ∧ t.pc = s.pc ∧ QuietFrame s t)

/-- R324: "After push/pop of the same value, SP returns to its original value and AF equality holds up to low 4 bits of
F", for a stack in RAM; and PUSH then POP of another pair gives it back. -/
def Obligations.PushThenPopRestores : Prop :=
  ∀ (s : State),
    s.Inv → s.isRam (s.sp - 1#16) = true → s.isRam (s.sp - 2#16) = true →
    (∃ t u, exec .push_AF s = .next t ∧ exec .pop_AF t = .next u ∧
      u.sp = s.sp ∧ u.reg8 .a = s.reg8 .a ∧ u.flags = s.flags) ∧
    (∃ t u, exec .push_BC s = .next t ∧ exec .pop_DE t = .next u ∧ u.sp = s.sp ∧ u.de = s.bc)

/-! ### Eight-bit arithmetic and logic -/

/-- R352 to R357: ADD A and ADC A with a register, (HL) or an immediate. -/
def Obligations.AluAdditions : Prop :=
  ∀ (op : AluOp) (r : Reg8) (n : Byte) (s : State), op = .add ∨ op = .adc →
    let cin := if op = .adc then s.flags.c.toNat else 0
    let adds := fun (v : Byte) (t : State) =>
      AddsInto (s.reg8 .a).toNat v.toNat cin (t.reg8 .a) t.flags ∧ SameRegisters [.a] s t ∧ QuietFrame s t
    Completes (.alu op r) [0b10#2 ++ op.field ++ r.field] 4 s (adds (s.reg8 r)) ∧
    Completes (.aluHL op) [0b10#2 ++ op.field ++ 0b110#3] 8 s (adds (s.read s.hl)) ∧
    Completes (.aluImm op n) [0b11#2 ++ op.field ++ 0b110#3, n] 8 s (adds n)

/-- R358 to R363: SUB and SBC A with a register, (HL) or an immediate; R373 to R375: CP, which leaves A unchanged. -/
def Obligations.AluSubtractions : Prop :=
  ∀ (op : AluOp) (r : Reg8) (n : Byte) (s : State), op = .sub ∨ op = .sbc ∨ op = .cp →
    let cin := if op = .sbc then s.flags.c.toNat else 0
    let subtracts := fun (v : Byte) (t : State) =>
      (∃ diff, SubtractsInto (s.reg8 .a).toNat v.toNat cin diff t.flags ∧
        (op ≠ .cp → ((t.reg8 .a).toNat : Int) = diff)) ∧
      (op = .cp → t.reg8 .a = s.reg8 .a) ∧ SameRegisters [.a] s t ∧ QuietFrame s t
    Completes (.alu op r) [0b10#2 ++ op.field ++ r.field] 4 s (subtracts (s.reg8 r)) ∧
    Completes (.aluHL op) [0b10#2 ++ op.field ++ 0b110#3] 8 s (subtracts (s.read s.hl)) ∧
    Completes (.aluImm op n) [0b11#2 ++ op.field ++ 0b110#3, n] 8 s (subtracts n)

/-- R364 to R372: AND, XOR and OR with a register, (HL) or an immediate. -/
def Obligations.AluLogic : Prop :=
  ∀ (op : AluOp) (r : Reg8) (n : Byte) (s : State), op = .and ∨ op = .xor ∨ op = .or →
    let combines := fun (v : Byte) (t : State) =>
      (∀ i : Fin 8, (t.reg8 .a).getLsbD i =
        match op with
        | .and => (s.reg8 .a).getLsbD i && v.getLsbD i
        | .xor => (s.reg8 .a).getLsbD i != v.getLsbD i
        | _ => (s.reg8 .a).getLsbD i || v.getLsbD i) ∧
      (t.flags.z = true ↔ t.reg8 .a = 0x00#8) ∧ t.flags.n = false ∧ t.flags.h = decide (op = .and) ∧
      t.flags.c = false ∧ SameRegisters [.a] s t ∧ QuietFrame s t
    Completes (.alu op r) [0b10#2 ++ op.field ++ r.field] 4 s (combines (s.reg8 r)) ∧
    Completes (.aluHL op) [0b10#2 ++ op.field ++ 0b110#3] 8 s (combines (s.read s.hl)) ∧
    Completes (.aluImm op n) [0b11#2 ++ op.field ++ 0b110#3, n] 8 s (combines n)

/-- R376, R378: INC r and DEC r; C is unchanged. -/
def Obligations.RegisterIncrements : Prop :=
  ∀ (r : Reg8) (s : State),
    (Completes (.incReg r) [0b00#2 ++ r.field ++ 0b100#3] 4 s fun t =>
      (t.reg8 r).toNat = ((s.reg8 r).toNat + 1) % 256 ∧
      (t.flags.z = true ↔ t.reg8 r = 0x00#8) ∧ t.flags.n = false ∧
      (t.flags.h = true ↔ (s.reg8 r).toNat % 16 = 0xF) ∧ t.flags.c = s.flags.c ∧
      SameRegisters [r] s t ∧ QuietFrame s t) ∧
    (Completes (.decReg r) [0b00#2 ++ r.field ++ 0b101#3] 4 s fun t =>
      ((t.reg8 r).toNat : Int) = ((s.reg8 r).toNat - 1 : Int) % 256 ∧
      (t.flags.z = true ↔ t.reg8 r = 0x00#8) ∧ t.flags.n = true ∧
      (t.flags.h = true ↔ (s.reg8 r).toNat % 16 = 0x0) ∧ t.flags.c = s.flags.c ∧
      SameRegisters [r] s t ∧ QuietFrame s t)

/-- R377, R379: INC (HL) and DEC (HL), a read and then a write of the byte at HL; C is unchanged. -/
def Obligations.MemoryIncrements : Prop :=
  ∀ (s : State),
    (Completes .inc_atHL [0x34#8] 12 s fun t =>
      (t.flags.z = true ↔ s.read s.hl = 0xFF#8) ∧ t.flags.n = false ∧
      (t.flags.h = true ↔ (s.read s.hl).toNat % 16 = 0xF) ∧ t.flags.c = s.flags.c ∧
      SameRegisters [] s t ∧ StoreFrame s.hl (s.read s.hl + 1#8) s t) ∧
    (Completes .dec_atHL [0x35#8] 12 s fun t =>
      (t.flags.z = true ↔ s.read s.hl = 0x01#8) ∧ t.flags.n = true ∧
      (t.flags.h = true ↔ (s.read s.hl).toNat % 16 = 0x0) ∧ t.flags.c = s.flags.c ∧
      SameRegisters [] s t ∧ StoreFrame s.hl (s.read s.hl - 1#8) s t)

/-- R380: DAA, by the spec's algorithm on unbounded integers. -/
def Obligations.DecimalAdjust : Prop :=
  ∀ (s : State),
    Completes .daa [0x27#8] 4 s fun t =>
      let adjusted := daaTable (s.reg8 .a).toNat s.flags.n s.flags.h s.flags.c
      ((t.reg8 .a).toNat : Int) = adjusted.1 % 256 ∧
      (t.flags.z = true ↔ t.reg8 .a = 0x00#8) ∧ t.flags.n = s.flags.n ∧ t.flags.h = false ∧
      t.flags.c = adjusted.2 ∧ SameRegisters [.a] s t ∧ QuietFrame s t

/-- Derived from R352, R358 and R380 ("decimal-adjust A after a BCD addition or subtraction"): on two-digit decimal
numbers, ADD then DAA is decimal addition and SUB then DAA decimal subtraction, with C the decimal carry or borrow. -/
def Obligations.DecimalAdjustAfterAddAndSub : Prop :=
  ∀ (x y : Nat) (s : State), x < 100 → y < 100 → s.reg8 .a = bcd x → s.reg8 .b = bcd y →
    (∃ t u, exec .add_A_B s = .next t ∧ exec .daa t = .next u ∧
      u.reg8 .a = bcd ((x + y) % 100) ∧ u.flags.c = decide (100 ≤ x + y)) ∧
    (∃ t u, exec .sub_B s = .next t ∧ exec .daa t = .next u ∧
      u.reg8 .a = bcd ((100 + x - y) % 100) ∧ u.flags.c = decide (x < y))

/-- R381, R382, R383: CPL, SCF and CCF. -/
def Obligations.ComplementAndCarryFlag : Prop :=
  ∀ (s : State),
    (Completes .cpl [0x2F#8] 4 s fun t =>
      (t.reg8 .a).toNat = 255 - (s.reg8 .a).toNat ∧
      t.flags = { z := s.flags.z, n := true, h := true, c := s.flags.c } ∧
      SameRegisters [.a] s t ∧ QuietFrame s t) ∧
    (Completes .scf [0x37#8] 4 s fun t =>
      t.flags = { z := s.flags.z, n := false, h := false, c := true } ∧ SameRegisters [] s t ∧ QuietFrame s t) ∧
    (Completes .ccf [0x3F#8] 4 s fun t =>
      t.flags = { z := s.flags.z, n := false, h := false, c := !s.flags.c } ∧ SameRegisters [] s t ∧ QuietFrame s t)

/-! ### Sixteen-bit arithmetic -/

/-- R400, R401, R402: ADD HL,rr, INC rr and DEC rr, for BC, DE, HL and SP. -/
def Obligations.PairArithmetic : Prop :=
  ∀ (rr : Reg16) (s : State),
    (Completes (.addHL rr) [0b00#2 ++ rr.field ++ 0b1001#4] 8 s fun t =>
      t.hl.toNat = (s.hl.toNat + (s.reg16 rr).toNat) % 0x10000 ∧
      t.flags.z = s.flags.z ∧ t.flags.n = false ∧
      (t.flags.h = true ↔ s.hl.toNat % 0x1000 + (s.reg16 rr).toNat % 0x1000 > 0x0FFF) ∧
      (t.flags.c = true ↔ s.hl.toNat + (s.reg16 rr).toNat > 0xFFFF) ∧
      SameRegisters [.h, .l] s t ∧ QuietFrame s t) ∧
    (Completes (.inc16 rr) [0b00#2 ++ rr.field ++ 0b0011#4] 8 s fun t =>
      (t.reg16 rr).toNat = ((s.reg16 rr).toNat + 1) % 0x10000 ∧ t.flags = s.flags ∧
      SameReg8 rr.halves s t ∧ (rr ≠ .sp → t.sp = s.sp) ∧ t.pc = s.pc ∧ QuietFrame s t) ∧
    (Completes (.dec16 rr) [0b00#2 ++ rr.field ++ 0b1011#4] 8 s fun t =>
      ((t.reg16 rr).toNat : Int) = ((s.reg16 rr).toNat - 1 : Int) % 0x10000 ∧ t.flags = s.flags ∧
      SameReg8 rr.halves s t ∧ (rr ≠ .sp → t.sp = s.sp) ∧ t.pc = s.pc ∧ QuietFrame s t)

/-- R403, R404, R405: ADD SP,e and LD HL,SP+e: a signed sum, with the flags of the unsigned sum of the low bytes. -/
def Obligations.StackPointerPlusDisplacement : Prop :=
  ∀ (e : Byte) (s : State),
    let sum : Int := ((s.sp.toNat : Int) + e.toInt) % 0x10000
    let lowByteFlags := fun (t : State) =>
      t.flags.z = false ∧ t.flags.n = false ∧
      (t.flags.h = true ↔ s.sp.toNat % 0x10 + e.toNat % 0x10 > 0x0F) ∧
      (t.flags.c = true ↔ s.sp.toNat % 0x100 + e.toNat > 0xFF)
    (Completes (.add_SP_e e) [0xE8#8, e] 16 s fun t =>
      (t.sp.toNat : Int) = sum ∧ lowByteFlags t ∧ SameReg8 [] s t ∧ t.pc = s.pc ∧ QuietFrame s t) ∧
    (Completes (.ld_HL_SPe e) [0xF8#8, e] 12 s fun t =>
      (t.hl.toNat : Int) = sum ∧ lowByteFlags t ∧ SameRegisters [.h, .l] s t ∧ QuietFrame s t)

/-! ### Rotates, shifts and bits -/

/-- R430 to R433: RLCA, RRCA, RLA and RRA, whose Z is always 0. -/
def Obligations.AccumulatorRotates : Prop :=
  ∀ (s : State),
    let a := (s.reg8 .a).toNat
    let rotates := fun (res : Nat) (c : Bool) (t : State) =>
      (t.reg8 .a).toNat = res ∧ t.flags = { z := false, n := false, h := false, c := c } ∧
      SameRegisters [.a] s t ∧ QuietFrame s t
    Completes .rlca [0x07#8] 4 s (rotates ((2 * a + a / 128) % 256) (decide (128 ≤ a))) ∧
    Completes .rrca [0x0F#8] 4 s (rotates (a / 2 + 128 * (a % 2)) (decide (a % 2 = 1))) ∧
    Completes .rla [0x17#8] 4 s (rotates ((2 * a + s.flags.c.toNat) % 256) (decide (128 ≤ a))) ∧
    Completes .rra [0x1F#8] 4 s (rotates (a / 2 + 128 * s.flags.c.toNat) (decide (a % 2 = 1)))

/-- R434 with R435, R437, R439, R441, R443, R445, R447, R449: the eight CB-page rotates and shifts of a register. -/
def Obligations.RegisterShifts : Prop :=
  ∀ (k : ShiftOp) (r : Reg8) (s : State),
    Completes (.shiftReg k r) [0xCB#8, 0b00#2 ++ k.field ++ r.field] 8 s fun t =>
      (t.reg8 r).toNat = shiftTable k (s.reg8 r).toNat s.flags.c.toNat ∧
      (t.flags.z = true ↔ t.reg8 r = 0x00#8) ∧ t.flags.n = false ∧ t.flags.h = false ∧
      t.flags.c = shiftOutTable k (s.reg8 r).toNat ∧ SameRegisters [r] s t ∧ QuietFrame s t

/-- R434 with R436, R438, R440, R442, R444, R446, R448, R450: the same on the byte at HL, read and then written. -/
def Obligations.MemoryShifts : Prop :=
  ∀ (k : ShiftOp) (s : State),
    Completes (.shiftHL k) [0xCB#8, 0b00#2 ++ k.field ++ 0b110#3] 16 s fun t =>
      ∃ res : Byte, res.toNat = shiftTable k (s.read s.hl).toNat s.flags.c.toNat ∧
        (t.flags.z = true ↔ res = 0x00#8) ∧ t.flags.n = false ∧ t.flags.h = false ∧
        t.flags.c = shiftOutTable k (s.read s.hl).toNat ∧ SameRegisters [] s t ∧ StoreFrame s.hl res s t

/-- R451, R452: BIT b,r and BIT b,(HL); C is unchanged and nothing is written but the flags. -/
def Obligations.BitTests : Prop :=
  ∀ (b : Fin 8) (r : Reg8) (s : State),
    let tests := fun (v : Byte) (t : State) =>
      t.flags = { z := !v.getLsbD b, n := false, h := true, c := s.flags.c } ∧
      SameRegisters [] s t ∧ QuietFrame s t
    Completes (.bitReg b r) [0xCB#8, 0b01#2 ++ BitVec.ofNat 3 b.val ++ r.field] 8 s (tests (s.reg8 r)) ∧
    Completes (.bitHL b) [0xCB#8, 0b01#2 ++ BitVec.ofNat 3 b.val ++ 0b110#3] 12 s (tests (s.read s.hl))

/-- R453 to R456: RES and SET of one bit of a register or of the byte at HL; no flag changes. -/
def Obligations.BitResetsAndSets : Prop :=
  ∀ (b : Fin 8) (r : Reg8) (s : State),
    let changed := fun (old : Byte) (bit : Bool) (new : Byte) =>
      ∀ i : Fin 8, new.getLsbD i = if i = b then bit else old.getLsbD i
    let inRegister := fun (bit : Bool) (t : State) =>
      changed (s.reg8 r) bit (t.reg8 r) ∧ t.flags = s.flags ∧ SameRegisters [r] s t ∧ QuietFrame s t
    let inMemory := fun (bit : Bool) (t : State) =>
      ∃ new, changed (s.read s.hl) bit new ∧ t.flags = s.flags ∧ SameRegisters [] s t ∧ StoreFrame s.hl new s t
    Completes (.resReg b r) [0xCB#8, 0b10#2 ++ BitVec.ofNat 3 b.val ++ r.field] 8 s (inRegister false) ∧
    Completes (.setReg b r) [0xCB#8, 0b11#2 ++ BitVec.ofNat 3 b.val ++ r.field] 8 s (inRegister true) ∧
    Completes (.resHL b) [0xCB#8, 0b10#2 ++ BitVec.ofNat 3 b.val ++ 0b110#3] 16 s (inMemory false) ∧
    Completes (.setHL b) [0xCB#8, 0b11#2 ++ BitVec.ofNat 3 b.val ++ 0b110#3] 16 s (inMemory true)

/-! ### Control flow -/

/-- R470 to R474: JP nn, JP cc,nn, JP HL, JR e and JR cc,e, taken and not taken. PC is the address after the instruction
when its meaning starts (R12). -/
def Obligations.Jumps : Prop :=
  ∀ (cc : Cond) (nn : Word) (e : Byte) (s : State),
    let leaves := fun (t : State) => t.flags = s.flags ∧ SameReg8 [] s t ∧ t.sp = s.sp ∧ QuietFrame s t
    let relative : Word := s.pc + e.signExtend 16
    (Completes (.jp_nn nn) [0xC3#8, lowByte nn, highByte nn] 16 s fun t => t.pc = nn ∧ leaves t) ∧
    (s.flags.Meets cc →
      Completes (.jpCond cc nn) [0b110#3 ++ cc.field ++ 0b010#3, lowByte nn, highByte nn] 16 s fun t =>
        t.pc = nn ∧ leaves t) ∧
    (¬ s.flags.Meets cc →
      Completes (.jpCond cc nn) [0b110#3 ++ cc.field ++ 0b010#3, lowByte nn, highByte nn] 12 s fun t =>
        t.pc = s.pc ∧ leaves t) ∧
    (Completes .jp_HL [0xE9#8] 4 s fun t => t.pc = s.hl ∧ leaves t) ∧
    (Completes (.jr_e e) [0x18#8, e] 12 s fun t => t.pc = relative ∧ leaves t) ∧
    (s.flags.Meets cc →
      Completes (.jrCond cc e) [0b001#3 ++ cc.field ++ 0b000#3, e] 12 s fun t => t.pc = relative ∧ leaves t) ∧
    (¬ s.flags.Meets cc →
      Completes (.jrCond cc e) [0b001#3 ++ cc.field ++ 0b000#3, e] 8 s fun t => t.pc = s.pc ∧ leaves t)

/-- R475, R476, R480: CALL nn, CALL cc,nn and RST push the address after the instruction, high byte first, and jump; a
call that is not taken changes nothing. -/
def Obligations.CallsAndRestarts : Prop :=
  ∀ (cc : Cond) (nn : Word) (k : Fin 8) (s : State),
    let calls := fun (target : Word) (t : State) =>
      t.pc = target ∧ t.sp = s.sp - 2#16 ∧ t.flags = s.flags ∧ SameReg8 [] s t ∧ SameControl s t ∧
      StoreTwoFrame (s.sp - 1#16) (highByte s.pc) (s.sp - 2#16) (lowByte s.pc) s t
    Completes (.call_nn nn) [0xCD#8, lowByte nn, highByte nn] 24 s (calls nn) ∧
    (s.flags.Meets cc →
      Completes (.callCond cc nn) [0b110#3 ++ cc.field ++ 0b100#3, lowByte nn, highByte nn] 24 s (calls nn)) ∧
    (¬ s.flags.Meets cc →
      Completes (.callCond cc nn) [0b110#3 ++ cc.field ++ 0b100#3, lowByte nn, highByte nn] 12 s fun t =>
        t.flags = s.flags ∧ SameRegisters [] s t ∧ QuietFrame s t) ∧
    Completes (.rst k) [0b11#2 ++ BitVec.ofNat 3 k.val ++ 0b111#3] 16 s (calls (BitVec.ofNat 16 (8 * k.val)))

/-- R477, R478, R479: RET, RET cc and RETI pop PC; RETI also sets IME at once and leaves the EI latch. -/
def Obligations.Returns : Prop :=
  ∀ (cc : Cond) (s : State),
    let pops := fun (t : State) =>
      lowByte t.pc = s.read s.sp ∧ highByte t.pc = s.read (s.sp + 1#16) ∧ t.sp = s.sp + 2#16 ∧ t.flags = s.flags ∧
      SameReg8 [] s t ∧ SameOutside s t ∧ SameReads s t
    (Completes .ret [0xC9#8] 16 s fun t => pops t ∧ SameControl s t) ∧
    (s.flags.Meets cc →
      Completes (.retCond cc) [0b110#3 ++ cc.field ++ 0b000#3] 20 s fun t => pops t ∧ SameControl s t) ∧
    (¬ s.flags.Meets cc →
      Completes (.retCond cc) [0b110#3 ++ cc.field ++ 0b000#3] 8 s fun t =>
        t.flags = s.flags ∧ SameRegisters [] s t ∧ QuietFrame s t) ∧
    (Completes .reti [0xD9#8] 16 s fun t =>
      pops t ∧ t.cpu.ime = true ∧ t.cpu.eiDelay = s.cpu.eiDelay ∧ t.cpu.mode = s.cpu.mode ∧
      t.cpu.faultRecord = s.cpu.faultRecord)

/-! ### System instructions -/

/-- R500, R503: NOP and DI; and what EI (R504), HALT (R501) and STOP (R502) do when they run. When EI's enable matures is
EnableTakesEffectAfterNextInstruction's; what a halted or stopped CPU does is IdleStepsExecuteNothing's. -/
def Obligations.SystemInstructions : Prop :=
  ∀ (ignored : Byte) (s : State),
    let leaves := fun (t : State) =>
      t.flags = s.flags ∧ SameRegisters [] s t ∧ t.cpu.faultRecord = s.cpu.faultRecord ∧ SameOutside s t ∧
      SameReads s t
    (Completes .nop [0x00#8] 4 s fun t => leaves t ∧ SameControl s t) ∧
    (Completes .di [0xF3#8] 4 s fun t =>
      leaves t ∧ t.cpu.ime = false ∧ t.cpu.eiDelay = 0 ∧ t.cpu.mode = s.cpu.mode) ∧
    (Completes .ei [0xFB#8] 4 s fun t =>
      leaves t ∧ t.cpu.ime = s.cpu.ime ∧ t.cpu.mode = s.cpu.mode ∧
      t.cpu.eiDelay = if s.cpu.eiDelay = 0 then 2 else s.cpu.eiDelay) ∧
    (Completes .halt [0x76#8] 4 s fun t =>
      leaves t ∧ t.cpu.mode = .halted ∧ t.cpu.ime = s.cpu.ime ∧ t.cpu.eiDelay = s.cpu.eiDelay) ∧
    (Completes (.stop ignored) [0x10#8, ignored] 4 s fun t =>
      leaves t ∧ t.cpu.mode = .stopped ∧ t.cpu.ime = s.cpu.ime ∧ t.cpu.eiDelay = s.cpu.eiDelay)

/-- R505, R520: an unassigned opcode. Under `Lock` it records IllegalOpcode with the address of its byte (PC - 1, PC
being past the byte) and locks the CPU; it pushes nothing, jumps to no vector, writes no flag and does not touch IME, IF
or IE. Under `Nop` it does nothing. -/
def Obligations.UnassignedOpcodes : Prop :=
  ∀ (op : Byte) (s : State), (Instr.illegal op).wellFormed = true →
    let leaves := fun (t : State) =>
      t.flags = s.flags ∧ SameRegisters [] s t ∧ t.cpu.ime = s.cpu.ime ∧ t.cpu.eiDelay = s.cpu.eiDelay ∧
      SameOutside s t ∧ SameReads s t
    (s.illegalMode = .lock →
      Completes (.illegal op) [op] 4 s fun t =>
        leaves t ∧ t.cpu.mode = .locked ∧ t.cpu.faultRecord = some { pc := s.pc - 1#16, op := op }) ∧
    (s.illegalMode = .nop →
      Completes (.illegal op) [op] 4 s fun t =>
        leaves t ∧ t.cpu.mode = s.cpu.mode ∧ t.cpu.faultRecord = s.cpu.faultRecord)

/-! ### The step -/

/-- R530, R166, R12: when no interrupt is taken and the CPU is not idle, a step runs the instruction that the bytes at PC
decode to, on the state after the EI latch, with the CPU running and PC past the instruction; the step returns that
instruction's cycles and, by R531, the exit reason of the mode it leaves; and the devices then tick by those cycles
(R691). -/
def Obligations.StepRunsDecodedInstruction : Prop :=
  ∀ (s : State) (i : Instr) (rest : List Byte),
    (s.cpu.mode = .running ∨ (s.cpu.mode = .halted ∧ s.pending ≠ 0#5)) →
    ((s.cpu.ime = true ∨ s.cpu.eiDelay = 1) → s.pending = 0#5) →
    decode [s.read s.pc, s.read (s.pc + 1#16), s.read (s.pc + 2#16)] = .ok (i, rest) →
    let fetched : State :=
      { s with
        cpu :=
          { s.cpu with
            mode := .running
            ime := s.cpu.ime || decide (s.cpu.eiDelay = 1)
            eiDelay := s.cpu.eiDelay - 1
            pc := s.pc + BitVec.ofNat 16 (encode i).length } }
    ∃ t, exec i fetched = .next t ∧
      step s = .next (State.tickN t.host.cycles
        { t with
          host :=
            { t.host with
              exit :=
                match t.cpu.mode with
                | .running => .step
                | .halted => .halt
                | .stopped => .stopped
                | .locked => .locked } })

/-- R532, R526, R525: with IME set (or an enable of EI maturing in this step) and an interrupt pending, a step services
the lowest pending bit: PC is pushed, high byte first; IF's bit, IME and the EI latch are cleared; PC is 0x0040 + 8 x i;
the CPU runs; 20 cycles are returned, with `InterruptTaken`, and the devices tick by 20. A push into IE or IF does not
change which vector is taken. -/
def Obligations.StepServicesInterrupt : Prop :=
  ∀ (s : State) (i : Interrupt),
    (s.cpu.mode = .running ∨ s.cpu.mode = .halted) → (s.cpu.ime = true ∨ s.cpu.eiDelay = 1) →
    s.pending.getLsbD i.bit = true → (∀ j : Interrupt, j.bit < i.bit → s.pending.getLsbD j.bit = false) →
    let once := s.write (s.sp - 1#16) (highByte s.pc)
    let pushed := once.write (s.sp - 2#16) (lowByte s.pc)
    ∃ u, step s = .next (State.tickN 20 u) ∧ u.host.cycles = 20 ∧ u.host.exit = .interruptTaken ∧
      u.cpu =
        { s.cpu with
          sp := s.sp - 2#16
          pc := BitVec.ofNat 16 (0x0040 + 8 * i.bit)
          ime := false
          eiDelay := 0
          mode := .running } ∧
      u.intFlag = pushed.intFlag &&& ~~~(1#5 <<< i.bit) ∧
      { u with
        cpu := pushed.cpu
        intFlag := pushed.intFlag
        host := { u.host with cycles := pushed.host.cycles, exit := pushed.host.exit } } = pushed ∧
      (∀ b, s.writeReaches (s.sp - 1#16) b = false → once.writeReaches (s.sp - 2#16) b = false → b ≠ 0xFF0F#16 →
        u.read b = s.read b) ∧
      (s.Inv → s.isRam (s.sp - 1#16) = true → s.isRam (s.sp - 2#16) = true →
        u.read (s.sp - 1#16) = highByte s.pc ∧ u.read (s.sp - 2#16) = lowByte s.pc)

/-- Derived from R504, R530 and R723: EI takes effect after the following instruction. With no enable pending and IME = 0,
the step of EI and the step after it take no interrupt; then, unless that second step ran DI, the third one takes an
interrupt if one is pending and the CPU is not stopped or locked. DI cancels the enable. -/
def Obligations.EnableTakesEffectAfterNextInstruction : Prop :=
  ∀ (s : State), s.cpu.mode = .running → s.cpu.ime = false → s.cpu.eiDelay = 0 → s.read s.pc = 0xFB#8 →
    ∃ t u, step s = .next t ∧ step t = .next u ∧
      t.pc = s.pc + 1#16 ∧ t.cpu.ime = false ∧ t.cpu.eiDelay = 2 ∧ t.host.exit = .step ∧
      u.host.exit ≠ .interruptTaken ∧
      (t.read t.pc = 0xF3#8 → u.cpu.ime = false ∧ u.cpu.eiDelay = 0) ∧
      (t.read t.pc ≠ 0xF3#8 →
        u.cpu.eiDelay = 1 ∧
        (u.cpu.mode = .running ∨ u.cpu.mode = .halted → u.pending ≠ 0#5 →
          ∃ w, step u = .next w ∧ w.host.exit = .interruptTaken))

/-- R530, R542: a locked or a stopped CPU, and a halted one with nothing pending, executes nothing: beside the EI latch
only the step's returned values change, 4 cycles with the mode's exit reason, and the devices tick by 4. The mode and PC
stay: Locked and Stopped are permanent. -/
def Obligations.IdleStepsExecuteNothing : Prop :=
  ∀ (s : State) (exit : ExitReason),
    (s.cpu.mode = .locked ∧ exit = .locked) ∨ (s.cpu.mode = .stopped ∧ exit = .stopped) ∨
      (s.cpu.mode = .halted ∧ s.pending = 0#5 ∧ exit = .halt) →
    ∃ t, step s = .next t ∧ t.cpu.mode = s.cpu.mode ∧ t.pc = s.pc ∧
      t = State.tickN 4
        { s with
          cpu :=
            { s.cpu with ime := s.cpu.ime || decide (s.cpu.eiDelay = 1), eiDelay := s.cpu.eiDelay - 1 }
          host := { s.host with cycles := 4, exit := exit } }

/-- R521: "once constructed, the core cannot fail at runtime": every step answers a next state. R78, R520: the fault
record changes only when an unassigned opcode byte stands at PC of a CPU that is not locked or stopped, under `Lock`;
then it is that byte and its address, and the CPU is locked. -/
def Obligations.FaultRecordOnlyByUnassignedOpcode : Prop :=
  ∀ (s : State), ∃ t, step s = .next t ∧
    (t.cpu.faultRecord = s.cpu.faultRecord ∨
      (s.illegalMode = .lock ∧ (s.cpu.mode = .running ∨ s.cpu.mode = .halted) ∧
        s.read s.pc ∈ unassignedOpcodes ∧ t.cpu.mode = .locked ∧
        t.cpu.faultRecord = some { pc := s.pc, op := s.read s.pc }))

/-- R152: "A write to 0x0000-0x7FFF never changes ROM contents", nor does anything else a step does; R77: the
configuration is not state. -/
def Obligations.ConfigurationAndRomKept : Prop := ∀ (s t : State), step s = .next t → SameConfig s t

/-! ### The invariant -/

/-- The invariant holds at reset, with the blank cartridge of log entry 7; and it holds of a core that construction builds
from any image (R720) exactly when its `ram_init` is in canonical form: the form the memories are kept in is the model's
choice (log entry 1). -/
def Obligations.ResetMeetsInvariant : Prop :=
  State.reset.Inv ∧
  ∀ (image : List Byte) (sramBytes : Option (List Byte)) (ram : RamInit) (mode : IllegalOpcodeMode) (s : State),
    new image sramBytes ram mode = .next s →
    (s.Inv ↔
      Memory.wf 8192 ram.vram = true ∧ Memory.wf 8192 ram.wram = true ∧ Memory.wf 160 ram.oam = true ∧
        Memory.wf 127 ram.hram = true)

/-- The invariant is kept by every step from every state that meets it: the memories stay in canonical form and inside
their arrays, the cartridge's sizes stay legal, the CPU is locked exactly when a fault is recorded and never under `Nop`
(R78, R520), the EI latch and the reload delay stay in range (R56, R64), LY and dot stay in range, and the PPU's mode is
that of LY and dot while the LCD is on and 0 while it is off (R601, R604). -/
def Obligations.InvariantKeptByStep : Prop := ∀ (s t : State), s.Inv → step s = .next t → t.Inv

/-! ### Construction -/

/-- R720: the state that construction builds, for every cartridge and every value of the open parameters of R9, with
what the registers read as. -/
def Obligations.ResetValues : Prop :=
  ∀ (cart : Cart) (ram : RamInit) (mode : IllegalOpcodeMode),
    let s := State.postBoot cart ram mode
    (s.reg8 .a = 0x01#8 ∧ s.flags.toByte = 0xB0#8 ∧ s.reg8 .b = 0x00#8 ∧ s.reg8 .c = 0x13#8 ∧ s.reg8 .d = 0x00#8 ∧
      s.reg8 .e = 0xD8#8 ∧ s.reg8 .h = 0x01#8 ∧ s.reg8 .l = 0x4D#8) ∧
    (s.sp = 0xFFFE#16 ∧ s.pc = 0x0100#16 ∧ s.cpu.ime = false ∧ s.cpu.eiDelay = 0 ∧ s.cpu.mode = .running ∧
      s.cpu.faultRecord = none) ∧
    (s.vram = ram.vram ∧ s.wram = ram.wram ∧ s.oam = ram.oam ∧ s.hram = ram.hram ∧ s.cart = cart) ∧
    (s.joypad.selButtons = false ∧ s.joypad.selDirs = false ∧ s.read 0xFF00#16 = 0xCF#8 ∧ s.joypad.buttons = 0x00#8) ∧
    (s.read 0xFF01#16 = 0x00#8 ∧ s.read 0xFF02#16 = 0x7E#8) ∧
    (s.timer.divCounter = 0xABCC#16 ∧ s.read 0xFF04#16 = 0xAB#8 ∧ s.read 0xFF05#16 = 0x00#8 ∧
      s.read 0xFF06#16 = 0x00#8 ∧ s.read 0xFF07#16 = 0xF8#8 ∧ s.timer.reloadDelay = 0) ∧
    (s.read 0xFF0F#16 = 0xE1#8 ∧ s.read 0xFFFF#16 = 0xE0#8) ∧
    (s.read 0xFF40#16 = 0x91#8 ∧ s.ppu.statSelect = 0b0000#4 ∧ s.read 0xFF42#16 = 0x00#8 ∧ s.read 0xFF43#16 = 0x00#8 ∧
      s.read 0xFF44#16 = 0x00#8 ∧ s.read 0xFF45#16 = 0x00#8 ∧ s.read 0xFF46#16 = 0xFF#8 ∧ s.read 0xFF47#16 = 0xFC#8 ∧
      s.read 0xFF48#16 = 0xFF#8 ∧ s.read 0xFF49#16 = 0xFF#8 ∧ s.read 0xFF4A#16 = 0x00#8 ∧ s.read 0xFF4B#16 = 0x00#8) ∧
    (s.ppu.dot = 0 ∧ s.ppu.mode = .oamScan ∧ s.ppu.statLine = false ∧ s.ppu.windowLine = 0x00#8 ∧
      s.ppu.frameReady = false ∧ s.ppu.lcdOffDots = 0 ∧ ∀ row column, s.pixelAt row column = 0#2) ∧
    s.illegalMode = mode

/-- R205, R202 to R204: which images construction rejects; R75, R230: for the others, the cartridge it builds, with the
supplied cartridge RAM bytes and zeros after them, which `sram_snapshot` gives back. -/
def Obligations.ConstructionFromImage : Prop :=
  ∀ (image : List Byte) (sramBytes : Option (List Byte)) (ram : RamInit) (mode : IllegalOpcodeMode),
    let typeByte := (image.getD 0x0147 0#8).toNat
    let romByte := (image.getD 0x0148 0#8).toNat
    let ramByte := (image.getD 0x0149 0#8).toNat
    let malformed :=
      image.length < 0x150 ∨ typeByte ∉ [0x00, 0x01, 0x02, 0x03, 0x0F, 0x10, 0x11, 0x12, 0x13] ∨ romByte > 0x08 ∨
        ramByte > 0x05 ∨ image.length ≠ 2 * 2 ^ romByte * 16384 ∨ (typeByte = 0x00 ∧ romByte ≠ 0)
    (malformed → new image sramBytes ram mode = .fault .malformedRom) ∧
    (¬ malformed →
      ∃ cart, new image sramBytes ram mode = .next (.postBoot cart ram mode) ∧
        cart.romBanks = 2 * 2 ^ romByte ∧
        cart.ramSize = [0, 2048, 8192, 32768, 131072, 65536].getD ramByte 0 ∧
        cart.mapper =
          (if typeByte = 0x00 then .romOnly
          else if typeByte ≤ 0x03 then
            .mbc1 { romBankLo := 0#5, ramBankOrUpper := 0#2, bankingMode := false, ramEnabled := false }
          else
            .mbc3
              { romBank := 0#7, ramOrRtcSelect := 0x00#8, ramEnabled := false
                rtcLatched :=
                  { seconds := 0x00#8, minutes := 0x00#8, hours := 0x00#8, dayLo := 0x00#8, dayHi := 0x00#8 }
                latchPrev := 0xFF#8 }) ∧
        (∀ k, Store.read cart.rom k = image.getD k 0#8) ∧
        (State.postBoot cart ram mode).sramSnapshot =
          (List.range cart.ramSize).map (fun k => (sramBytes.getD []).getD k 0#8))

/-! ### The bus -/

/-- R151: the address decoder, for reads and writes. -/
def Obligations.AddressDecoder : Prop :=
  ∀ (s : State) (a : Word) (v : Byte),
    let n := a.toNat
    (n < 0x8000 → s.read a = s.cart.readRom a ∧ s.write a v = s.writeCartRom a v) ∧
    (0x8000 ≤ n → n < 0xA000 →
      s.read a = Store.read s.vram (n - 0x8000) ∧ s.write a v = { s with vram := Store.write s.vram (n - 0x8000) v }) ∧
    (0xA000 ≤ n → n < 0xC000 → s.read a = s.cart.readRam a ∧ s.write a v = s.writeCartRam a v) ∧
    (0xC000 ≤ n → n < 0xE000 →
      s.read a = Store.read s.wram (n - 0xC000) ∧ s.write a v = { s with wram := Store.write s.wram (n - 0xC000) v }) ∧
    (0xE000 ≤ n → n < 0xFE00 →
      s.read a = Store.read s.wram (n - 0xE000) ∧ s.write a v = { s with wram := Store.write s.wram (n - 0xE000) v }) ∧
    (0xFE00 ≤ n → n < 0xFEA0 →
      s.read a = Store.read s.oam (n - 0xFE00) ∧ s.write a v = { s with oam := Store.write s.oam (n - 0xFE00) v }) ∧
    (0xFEA0 ≤ n → n < 0xFF00 → s.read a = 0xFF#8 ∧ s.write a v = s) ∧
    (0xFF00 ≤ n → n < 0xFF80 →
      s.read a = s.ioRead (ioRegAt (n - 0xFF00)) ∧ s.write a v = s.ioWrite (ioRegAt (n - 0xFF00)) v) ∧
    (0xFF80 ≤ n → n < 0xFFFF →
      s.read a = Store.read s.hram (n - 0xFF80) ∧ s.write a v = { s with hram := Store.write s.hram (n - 0xFF80) v }) ∧
    (n = 0xFFFF →
      (s.read a).toNat = 0xE0 + s.intEnable.toNat ∧
        (s.write a v) = { s with intEnable := BitVec.ofNat 5 v.toNat })

/-- R660 with R661, R663, R664, R609, R668 and R669: what the I/O registers read as and what a write to one stores, apart
from the writes with an effect of their own (DIV, TIMA, TMA and TAC, LCDC, DMA), which have statements of their own. -/
def Obligations.IoRegisterMap : Prop :=
  ∀ (s : State) (v : Byte),
    ((s.read 0xFF00#16).getLsbD 7 = true ∧ (s.read 0xFF00#16).getLsbD 6 = true ∧
      (s.read 0xFF00#16).getLsbD 5 = s.joypad.selButtons ∧ (s.read 0xFF00#16).getLsbD 4 = s.joypad.selDirs ∧
      (∀ i : Fin 4, (s.read 0xFF00#16).getLsbD i =
        !((!s.joypad.selDirs && s.joypad.buttons.getLsbD i) ||
          (!s.joypad.selButtons && s.joypad.buttons.getLsbD (4 + i)))) ∧
      s.write 0xFF00#16 v =
        { s with joypad := { s.joypad with selButtons := v.getLsbD 5, selDirs := v.getLsbD 4 } }) ∧
    (s.read 0xFF01#16 = s.serial.sb ∧ s.write 0xFF01#16 v = { s with serial := { s.serial with sb := v } }) ∧
    ((s.read 0xFF02#16).toNat = 0x7E + 128 * s.serial.transferStart.toNat + s.serial.clockSelect.toNat ∧
      s.write 0xFF02#16 v =
        { s with serial := { s.serial with transferStart := v.getLsbD 7, clockSelect := v.getLsbD 0 } }) ∧
    ((s.read 0xFF04#16).toNat = s.timer.divCounter.toNat / 256 ∧ s.read 0xFF05#16 = s.timer.tima ∧
      s.read 0xFF06#16 = s.timer.tma ∧ (s.read 0xFF07#16).toNat = 0xF8 + s.timer.tac.toNat) ∧
    ((s.read 0xFF0F#16).toNat = 0xE0 + s.intFlag.toNat ∧
      s.write 0xFF0F#16 v = { s with intFlag := BitVec.ofNat 5 v.toNat }) ∧
    (s.read 0xFF40#16 = s.ppu.lcdc) ∧
    ((s.read 0xFF41#16).toNat =
        0x80 + 8 * s.ppu.statSelect.toNat + 4 * (decide (s.ppu.ly = s.ppu.lyc)).toNat +
          (match s.ppu.mode with
          | .hblank => 0
          | .vblank => 1
          | .oamScan => 2
          | .drawing => 3) ∧
      s.write 0xFF41#16 v = { s with ppu := { s.ppu with statSelect := BitVec.ofNat 4 (v.toNat / 8) } } ∧
      (s.Inv → s.ppu.lcdc.getLsbD 7 = false → s.ppu.mode = .hblank ∧ s.read 0xFF44#16 = 0x00#8)) ∧
    (s.read 0xFF42#16 = s.ppu.scy ∧ s.write 0xFF42#16 v = { s with ppu := { s.ppu with scy := v } }) ∧
    (s.read 0xFF43#16 = s.ppu.scx ∧ s.write 0xFF43#16 v = { s with ppu := { s.ppu with scx := v } }) ∧
    (s.read 0xFF44#16 = s.ppu.ly ∧ s.write 0xFF44#16 v = s) ∧
    (s.read 0xFF45#16 = s.ppu.lyc ∧ s.write 0xFF45#16 v = { s with ppu := { s.ppu with lyc := v } }) ∧
    (s.read 0xFF46#16 = s.dma) ∧
    (s.read 0xFF47#16 = s.ppu.bgp ∧ s.write 0xFF47#16 v = { s with ppu := { s.ppu with bgp := v } }) ∧
    (s.read 0xFF48#16 = s.ppu.obp0 ∧ s.write 0xFF48#16 v = { s with ppu := { s.ppu with obp0 := v } }) ∧
    (s.read 0xFF49#16 = s.ppu.obp1 ∧ s.write 0xFF49#16 v = { s with ppu := { s.ppu with obp1 := v } }) ∧
    (s.read 0xFF4A#16 = s.ppu.wy ∧ s.write 0xFF4A#16 v = { s with ppu := { s.ppu with wy := v } }) ∧
    (s.read 0xFF4B#16 = s.ppu.wx ∧ s.write 0xFF4B#16 v = { s with ppu := { s.ppu with wx := v } }) ∧
    (∀ a : Word,
      a = 0xFF03#16 ∨ (0xFF08 ≤ a.toNat ∧ a.toNat ≤ 0xFF0E) ∨ (0xFF10 ≤ a.toNat ∧ a.toNat ≤ 0xFF3F) ∨
        (0xFF4C ≤ a.toNat ∧ a.toNat ≤ 0xFF7F) →
      s.read a = 0xFF#8 ∧ s.write a v = s)

/-- R165: a bus write changes the reading of no address but those `State.writeReaches` lists; no write changes a register
of the CPU (R50); and every write keeps the memories in the canonical form, which is the model's choice (log entry 1). -/
def Obligations.BusWriteReaches : Prop :=
  ∀ (s : State) (a b : Word) (v : Byte),
    (s.write a v).cpu = s.cpu ∧ (s.writeReaches a b = false → (s.write a v).read b = s.read b) ∧
    (s.CanonicalMemory → (s.write a v).CanonicalMemory)

/-- R153, R155, R157, R159: a byte of RAM reads as the value last written to it, at every address that reaches it: its
own, its echo, and in the window of a small cartridge RAM the repeats of R206. R156: an access in the echo range is the
access 0x2000 below. The premise is the part of the invariant about the memories (log entry 1). -/
def Obligations.RamReadsBackAndEcho : Prop :=
  ∀ (s : State) (a : Word) (v : Byte),
    (s.CanonicalMemory → s.isRam a = true →
      (s.write a v).read a = v ∧
      (∀ b, s.writeReaches a b = true → (s.write a v).read b = v) ∧
      (s.cart.ramSize = 2048 → 0xA000 ≤ a.toNat → a.toNat < 0xC000 →
        ∀ b : Word, 0xA000 ≤ b.toNat → b.toNat < 0xC000 → b.toNat % 2048 = a.toNat % 2048 →
          (s.write a v).read b = v)) ∧
    (0xE000 ≤ a.toNat → a.toNat < 0xFE00 →
      s.read a = s.read (a - 0x2000#16) ∧ s.write a v = s.write (a - 0x2000#16) v)

/-- R170: a write of v to DMA stores v and, inside the same write, copies the 160 bytes from v x 0x100 to OAM, and
changes nothing else. -/
def Obligations.OamDmaCopies : Prop :=
  ∀ (s : State) (v : Byte),
    let t := s.write 0xFF46#16 v
    t.read 0xFF46#16 = v ∧
    { t with dma := s.dma, oam := s.oam } = s ∧
    (s.CanonicalMemory → ∀ i : Nat, i < 160 →
      t.read (BitVec.ofNat 16 (0xFE00 + i)) =
        State.read { s with dma := v } (BitVec.ofNat 16 (256 * v.toNat + i)))

/-- R213: a ROM-only cartridge; R211, R214, R215: MBC1's registers, the ROM bank it maps and its RAM. R210, R206: the low
window is bank 0, and banks wrap modulo the image's. -/
def Obligations.RomOnlyAndMbc1 : Prop :=
  ∀ (s : State) (a : Word) (v : Byte),
    let n := a.toNat
    let romByte := fun (bank off : Nat) => Store.read s.cart.rom (bank % s.cart.romBanks * 0x4000 + off)
    (n < 0x4000 → s.read a = romByte 0 n) ∧
    (s.cart.mapper = .romOnly →
      (n < 0x8000 → s.write a v = s) ∧
      (0x4000 ≤ n → n < 0x8000 → s.read a = romByte 1 (n - 0x4000)) ∧
      (0xA000 ≤ n → n < 0xC000 → s.read a = 0xFF#8 ∧ s.write a v = s)) ∧
    (∀ r : Mbc1, s.cart.mapper = .mbc1 r →
      let becomes := fun (r' : Mbc1) => s.write a v = { s with cart := { s.cart with mapper := .mbc1 r' } }
      (n < 0x2000 → becomes { r with ramEnabled := decide (v.toNat % 16 = 0x0A) }) ∧
      (0x2000 ≤ n → n < 0x4000 → becomes { r with romBankLo := BitVec.ofNat 5 v.toNat }) ∧
      (0x4000 ≤ n → n < 0x6000 → becomes { r with ramBankOrUpper := BitVec.ofNat 2 v.toNat }) ∧
      (0x6000 ≤ n → n < 0x8000 → becomes { r with bankingMode := decide (v.toNat % 2 = 1) }) ∧
      (0x4000 ≤ n → n < 0x8000 →
        let lo := if r.romBankLo.toNat = 0 then 1 else r.romBankLo.toNat
        s.read a =
          romByte (if r.bankingMode = false then 32 * r.ramBankOrUpper.toNat + lo else lo) (n - 0x4000)) ∧
      (0xA000 ≤ n → n < 0xC000 →
        (r.ramEnabled = false ∨ s.cart.ramSize = 0 → s.read a = 0xFF#8 ∧ s.write a v = s) ∧
        (r.ramEnabled = true → s.cart.ramSize ≠ 0 →
          let index := ((if r.bankingMode = true then r.ramBankOrUpper.toNat else 0) * 0x2000 + (n - 0xA000)) %
            s.cart.ramSize
          s.read a = Store.read s.cart.sram index ∧
            s.write a v = { s with cart := { s.cart with sram := Store.write s.cart.sram index v } })))

/-- R212, R216, R217 with R226 and R227: MBC3's registers, its latch sequence, the ROM bank it maps, its RAM and its RTC
registers. The sample an RTC latch takes is the host's next one, whatever it is (log entry 3); an RTC write goes to the
host and leaves the latched bytes. -/
def Obligations.Mbc3Cartridge : Prop :=
  ∀ (s : State) (r : Mbc3) (a : Word) (v : Byte), s.cart.mapper = .mbc3 r →
    let n := a.toNat
    let becomes := fun (r' : Mbc3) => s.write a v = { s with cart := { s.cart with mapper := .mbc3 r' } }
    (n < 0x2000 → becomes { r with ramEnabled := decide (v.toNat % 16 = 0x0A) }) ∧
    (0x2000 ≤ n → n < 0x4000 → becomes { r with romBank := BitVec.ofNat 7 v.toNat }) ∧
    (0x4000 ≤ n → n < 0x6000 → becomes { r with ramOrRtcSelect := v }) ∧
    (0x6000 ≤ n → n < 0x8000 →
      (¬ (r.latchPrev = 0x00#8 ∧ v = 0x01#8) → becomes { r with latchPrev := v }) ∧
      (r.latchPrev = 0x00#8 ∧ v = 0x01#8 →
        s.write a v =
          { s with
            cart :=
              { s.cart with
                mapper := .mbc3 { r with rtcLatched := Config.hostRtcSample s.host.rtcSamples, latchPrev := v } }
            host := { s.host with rtcSamples := s.host.rtcSamples + 1 } })) ∧
    (0x4000 ≤ n → n < 0x8000 →
      s.read a = Store.read s.cart.rom
        ((if r.romBank.toNat = 0 then 1 else r.romBank.toNat) % s.cart.romBanks * 0x4000 + (n - 0x4000))) ∧
    (0xA000 ≤ n → n < 0xC000 →
      let sel := r.ramOrRtcSelect.toNat
      (r.ramEnabled = false ∨ (sel ≤ 0x03 ∧ s.cart.ramSize = 0) ∨ (0x04 ≤ sel ∧ sel ≤ 0x07) ∨ 0x0D ≤ sel →
        s.read a = 0xFF#8 ∧ s.write a v = s) ∧
      (r.ramEnabled = true → sel ≤ 0x03 → s.cart.ramSize ≠ 0 →
        let index := (sel * 0x2000 + (n - 0xA000)) % s.cart.ramSize
        s.read a = Store.read s.cart.sram index ∧
          s.write a v = { s with cart := { s.cart with sram := Store.write s.cart.sram index v } }) ∧
      (r.ramEnabled = true → 0x08 ≤ sel → sel ≤ 0x0C →
        s.read a =
            [r.rtcLatched.seconds, r.rtcLatched.minutes, r.rtcLatched.hours, r.rtcLatched.dayLo,
              r.rtcLatched.dayHi].getD (sel - 0x08) 0#8 ∧
          s.write a v =
            { s with
              host :=
                { s.host with
                  rtcWrites := s.host.rtcWrites ++ [{ register := sel - 0x08, value := v }] } }))

/-! ### The timer -/

/-- Derived from R570, R573 and R574: one tick of the timer. The counter's selected bit falls exactly when the counter
reaches a multiple of its period. A pending reload happens first and requests the Timer interrupt; then the falling edge
increments TIMA, and an overflow starts the 4-cycle delay. -/
def Obligations.TimerTick : Prop :=
  ∀ (s : State),
    let t := s.timer
    let reloads := decide (t.reloadDelay = 1)
    let tima := if reloads then t.tma else t.tima
    let falls := t.tac.getLsbD 2 && decide ((t.divCounter.toNat + 1) % Timer.period t.tac = 0)
    s.tickTimer =
      { s with
        timer :=
          { divCounter := t.divCounter + 1#16
            tima := if falls then tima + 1#8 else tima
            tma := t.tma
            tac := t.tac
            reloadDelay := if falls && decide (tima = 0xFF#8) then 4 else t.reloadDelay - 1 }
        intFlag := if reloads then s.intFlag ||| 0b00100#5 else s.intFlag }

/-- R571, R572, R575, R576: CPU writes to DIV, TAC, TIMA and TMA. The timer's signal is TAC[2] and the counter bit that
TAC[1:0] selects, which is 1 in the second half of its period; a write of DIV or TAC that makes the signal fall
increments TIMA. -/
def Obligations.TimerRegisterWrites : Prop :=
  ∀ (s : State) (v : Byte),
    let t := s.timer
    let signal := fun (tac : BitVec 3) (counter : Nat) =>
      tac.getLsbD 2 && decide (Timer.period tac ≤ 2 * (counter % Timer.period tac))
    let stepped := fun (edge : Bool) (t' : Timer) =>
      if edge then
        if t.tima = 0xFF#8 then { t' with tima := 0x00#8, reloadDelay := 4 } else { t' with tima := t.tima + 1#8 }
      else t'
    (s.write 0xFF04#16 v =
      { s with timer := stepped (signal t.tac t.divCounter.toNat) { t with divCounter := 0x0000#16 } }) ∧
    (s.write 0xFF07#16 v =
      { s with
        timer :=
          stepped
            (signal t.tac t.divCounter.toNat && !signal (BitVec.ofNat 3 v.toNat) t.divCounter.toNat)
            { t with tac := BitVec.ofNat 3 v.toNat } }) ∧
    (s.write 0xFF05#16 v = { s with timer := { t with tima := v, reloadDelay := 0 } }) ∧
    (s.write 0xFF06#16 v = { s with timer := { t with tma := v } })

/-- Derived from R570 and R573 (the periods 1024, 16, 64 and 256): an enabled timer with no reload pending counts TIMA
up by exactly 1 in every whole period, wherever in its period it starts. -/
def Obligations.TimaCountsOncePerPeriod : Prop :=
  ∀ (t : Timer), t.tac.getLsbD 2 = true → t.reloadDelay = 0 → t.tima ≠ 0xFF#8 →
    Timer.tick^[Timer.period t.tac] t =
      { t with divCounter := t.divCounter + BitVec.ofNat 16 (Timer.period t.tac), tima := t.tima + 1#8 }

/-! ### The PPU -/

/-- Derived from R603, R605 and R601: with the LCD on, n ticks of the devices move the PPU n dots along the frame of
70,224 dots, and its mode is that of its line and dot. -/
def Obligations.PpuFollowsFrame : Prop :=
  ∀ (s : State) (n : Nat), s.ppu.Legal → s.ppu.lcdOn = true →
    let p := (State.tickN n s).ppu
    p.lcdOn = true ∧ p.Legal ∧
    p.ly.toNat * 456 + p.dot = (s.ppu.ly.toNat * 456 + s.ppu.dot + n) % 70224 ∧
    p.mode =
      (if 144 ≤ p.ly.toNat then .vblank else if p.dot < 80 then .oamScan else if p.dot < 252 then .drawing else .hblank)

/-- R606, R607, R608: with the LCD on, a dot requests Vblank and ends the frame exactly when LY becomes 144, and requests
LCD exactly on a rising edge of the OR-ed STAT line; it requests nothing else. -/
def Obligations.PpuInterruptRequests : Prop :=
  ∀ (s : State), s.ppu.Legal → s.ppu.lcdOn = true →
    let t := s.tickPpu
    let entersVblank := decide (s.ppu.ly.toNat = 143) && decide (s.ppu.dot = 455)
    let level :=
      ((t.read 0xFF41#16).getLsbD 6 && decide (t.ppu.ly = t.ppu.lyc))
        || ((t.read 0xFF41#16).getLsbD 3 && decide (t.ppu.mode = .hblank))
        || ((t.read 0xFF41#16).getLsbD 4 && decide (t.ppu.mode = .vblank))
        || ((t.read 0xFF41#16).getLsbD 5 && decide (t.ppu.mode = .oamScan))
    t.ppu.statLine = level ∧
    t.ppu.frameReady = (s.ppu.frameReady || entersVblank) ∧
    (entersVblank = true → t.ppu.ly.toNat = 144 ∧ t.ppu.dot = 0) ∧
    (∀ i : Fin 5, t.intFlag.getLsbD i =
      (s.intFlag.getLsbD i || (decide (i.val = 0) && entersVblank) ||
        (decide (i.val = 1) && !s.ppu.statLine && level)))

/-- R602: a write of LCDC stores all 8 bits and switches the PPU off or on by bit 7; R604: a dot with the LCD off, which
ends a frame every 70,224 dots and requests nothing. -/
def Obligations.LcdSwitchAndOffDots : Prop :=
  (∀ (s : State) (v : Byte),
    let p := s.ppu
    let t := s.write 0xFF40#16 v
    (p.lcdc.getLsbD 7 = true → v.getLsbD 7 = false →
      t = { s with ppu := { p with lcdc := v, ly := 0x00#8, dot := 0, mode := .hblank, statLine := false,
                                   lcdOffDots := 0 } }) ∧
    (p.lcdc.getLsbD 7 = false → v.getLsbD 7 = true →
      t = { s with ppu := { p with lcdc := v, ly := 0x00#8, dot := 0, mode := .oamScan, windowLine := 0x00#8,
                                   lcdOffDots := 0 } }) ∧
    (p.lcdc.getLsbD 7 = v.getLsbD 7 → t = { s with ppu := { p with lcdc := v } })) ∧
  (∀ (s : State), s.ppu.lcdc.getLsbD 7 = false →
    s.tickPpu =
      { s with
        ppu :=
          { s.ppu with
            lcdOffDots := if s.ppu.lcdOffDots + 1 = 70224 then 0 else s.ppu.lcdOffDots + 1
            frameReady := s.ppu.frameReady || decide (s.ppu.lcdOffDots + 1 = 70224) } })

/-- R610, R613: with the LCD on, the dot that takes a visible line into mode 0 (dot 252) draws all 160 pixels of that
line and no other pixel, and advances the window's line counter if the window was visible; every other dot leaves the
framebuffer alone. -/
def Obligations.LineDrawnAtHblank : Prop :=
  ∀ (s : State), s.ppu.Legal → s.ppu.lcdOn = true →
    let p := s.ppu
    (p.ly.toNat < 144 → p.dot = 251 →
      Store.wf (160 * 144) p.framebuffer = true →
      (∀ row column, row < 144 → column < 160 →
        s.tickPpu.pixelAt row column =
          if row = p.ly.toNat then p.pixel s.vram (p.scanOam s.oam) column else s.pixelAt row column) ∧
      s.tickPpu.ppu.windowLine = if p.windowVisible then p.windowLine + 1#8 else p.windowLine) ∧
    (¬ (p.ly.toNat < 144 ∧ p.dot = 251) → s.tickPpu.ppu.framebuffer = p.framebuffer)

/-- R612, R613, R614, R617: a pixel with no sprite on it: the window's where it covers x, else the background's, else the
blank shade 0. -/
def Obligations.BackgroundAndWindowPixels : Prop :=
  ∀ (p : Ppu) (vram : Memory) (x : Nat), x < 160 →
    let byteAt := fun (a : Nat) => (Store.read vram (a - 0x8000)).toNat
    let tileAddr := fun (tidx : Nat) =>
      if p.lcdc.getLsbD 4 then 0x8000 + 16 * tidx
      else if tidx < 128 then 0x9000 + 16 * tidx else 0x9000 + 16 * tidx - 4096
    let tilePixel := fun (base row col : Nat) =>
      2 * (byteAt (base + 2 * row + 1) / 2 ^ (7 - col) % 2) + byteAt (base + 2 * row) / 2 ^ (7 - col) % 2
    let mapPixel := fun (map row col : Nat) =>
      tilePixel (tileAddr (byteAt (map + row / 8 * 32 + col / 8))) (row % 8) (col % 8)
    let shade := fun (index : Nat) => p.bgp.toNat / 4 ^ index % 4
    (p.pixel vram [] x).toNat =
      if p.lcdc.getLsbD 5 = true ∧ p.wy.toNat ≤ p.ly.toNat ∧ p.wx.toNat ≤ 166 ∧ p.wx.toNat ≤ x + 7 then
        shade (mapPixel (if p.lcdc.getLsbD 6 then 0x9C00 else 0x9800) p.windowLine.toNat (x + 7 - p.wx.toNat))
      else if p.lcdc.getLsbD 0 then
        shade (mapPixel (if p.lcdc.getLsbD 3 then 0x9C00 else 0x9800) ((p.scy.toNat + p.ly.toNat) % 256)
          ((p.scx.toNat + x) % 256))
      else 0

/-- R611: the OAM scan keeps, in OAM order, the first ten of the 40 entries that are on the line, none with LCDC[1] = 0;
R615: the colour index of a kept sprite that covers x; R616: the winner at x covers it with a non-zero index, no other
sprite that does has a lower x, nor the same x earlier in OAM, and the winner shows unless its attribute bit 7 is set over
a non-zero background or window index. The pixel under it is the one of BackgroundAndWindowPixels. -/
def Obligations.SpriteSelectionAndPriority : Prop :=
  ∀ (p : Ppu) (vram oam : Memory) (x : Nat),
    let line := p.ly.toNat + 16
    let height := if p.lcdc.getLsbD 2 then 16 else 8
    let byteAt := fun (off : Nat) => (Store.read vram off).toNat
    let entry := fun (i : Nat) =>
      ({ y := (Store.read oam (4 * i)).toNat, x := (Store.read oam (4 * i + 1)).toNat
         tile := Store.read oam (4 * i + 2), attr := Store.read oam (4 * i + 3) } : Sprite)
    let sprites := p.scanOam oam
    let drawn := fun (q : Sprite) => q.x ≤ x + 8 ∧ x + 8 < q.x + 8 ∧ p.spritePixel vram q x ≠ 0#2
    (sprites =
      if p.lcdc.getLsbD 1 then
        (((List.range 40).map entry).filter (fun q => decide (q.y ≤ line ∧ line < q.y + height))).take 10
      else []) ∧
    (∀ q ∈ sprites, q.x ≤ x + 8 → x + 8 < q.x + 8 →
      let row := if q.attr.getLsbD 6 then height - 1 - (line - q.y) else line - q.y
      let col := if q.attr.getLsbD 5 then 7 - (x + 8 - q.x) else x + 8 - q.x
      let tile := if p.lcdc.getLsbD 2 then 2 * (q.tile.toNat / 2) else q.tile.toNat
      (p.spritePixel vram q x).toNat =
        2 * (byteAt (16 * tile + 2 * row + 1) / 2 ^ (7 - col) % 2) + byteAt (16 * tile + 2 * row) / 2 ^ (7 - col) % 2) ∧
    (∀ winner index, p.winningSprite vram sprites x = some (winner, index) →
      drawn winner ∧ index = p.spritePixel vram winner x ∧
      (∃ before after, sprites = before ++ winner :: after ∧
        (∀ q ∈ before, drawn q → winner.x < q.x) ∧ (∀ q ∈ after, drawn q → winner.x ≤ q.x)) ∧
      (winner.attr.getLsbD 7 = false ∨ (p.backPixel vram x).getD 0#2 = 0#2 →
        (p.pixel vram sprites x).toNat =
          (if winner.attr.getLsbD 4 then p.obp1 else p.obp0).toNat / 4 ^ index.toNat % 4) ∧
      (winner.attr.getLsbD 7 = true → (p.backPixel vram x).getD 0#2 ≠ 0#2 →
        p.pixel vram sprites x = p.pixel vram [] x)) ∧
    (p.winningSprite vram sprites x = none →
      (∀ q ∈ sprites, ¬ drawn q) ∧ p.pixel vram sprites x = p.pixel vram [] x)

/-! ### The host's calls and the driver -/

/-- R662: `set_buttons` stores the mask and requests the Joypad interrupt when a button is newly pressed. -/
def Obligations.SetButtons : Prop :=
  ∀ (s : State) (mask : Byte),
    s.setButtons mask =
      { s with
        joypad := { s.joypad with buttons := mask }
        intFlag :=
          if ∃ i : Fin 8, mask.getLsbD i = true ∧ s.joypad.buttons.getLsbD i = false then s.intFlag ||| 0b10000#5
          else s.intFlag }

/-- R523, R663: the devices' ticks only ever set IF bits, never Serial's or Joypad's, and write nothing but IF and their
own registers. -/
def Obligations.TicksOnlyRaiseRequests : Prop :=
  ∀ (s : State) (n : Nat),
    let t := State.tickN n s
    (∀ i : Fin 5, s.intFlag.getLsbD i = true → t.intFlag.getLsbD i = true) ∧
    t.intFlag.getLsbD 3 = s.intFlag.getLsbD 3 ∧ t.intFlag.getLsbD 4 = s.intFlag.getLsbD 4 ∧
    { t with timer := s.timer, ppu := s.ppu, intFlag := s.intFlag } = s

/-- R691, R699: "A CPU that is Locked or Stopped ... still runs frames forever": from any state that meets the invariant
with the CPU locked or stopped, `run_frame` returns within one frame's 70,224 T-cycles, that is 17,556 steps, LCD on or
off. The number of steps is the bound that the model's `State.runFrame` takes (log entry 10). -/
def Obligations.LockedOrStoppedCoreRunsFrames : Prop :=
  ∀ (s : State), s.Inv → (s.cpu.mode = .locked ∨ s.cpu.mode = .stopped) →
    ∃ t, State.runFrame 17556 s = some t ∧ t.ppu.frameReady = true ∧ t.cpu.mode = s.cpu.mode ∧ t.Inv
end

