-- ==== Sys2Proof/Laws/State.lean ====
section
/-!
SUPPORT. One lemma per field per update of the state, each true by rfl and tagged simp, so that no later proof unfolds a
record update: the register writes of Operands.lean, the values a step returns, and the interrupt requests.
-/
namespace Sys2Proof.Machine

variable (s : State)

/-! ### `setReg8` -/

@[simp] theorem setReg8_vram (r : Reg8) (v : Byte) : (s.setReg8 r v).vram = s.vram := rfl
@[simp] theorem setReg8_wram (r : Reg8) (v : Byte) : (s.setReg8 r v).wram = s.wram := rfl
@[simp] theorem setReg8_oam (r : Reg8) (v : Byte) : (s.setReg8 r v).oam = s.oam := rfl
@[simp] theorem setReg8_hram (r : Reg8) (v : Byte) : (s.setReg8 r v).hram = s.hram := rfl
@[simp] theorem setReg8_cart (r : Reg8) (v : Byte) : (s.setReg8 r v).cart = s.cart := rfl
@[simp] theorem setReg8_joypad (r : Reg8) (v : Byte) : (s.setReg8 r v).joypad = s.joypad := rfl
@[simp] theorem setReg8_serial (r : Reg8) (v : Byte) : (s.setReg8 r v).serial = s.serial := rfl
@[simp] theorem setReg8_timer (r : Reg8) (v : Byte) : (s.setReg8 r v).timer = s.timer := rfl
@[simp] theorem setReg8_intFlag (r : Reg8) (v : Byte) : (s.setReg8 r v).intFlag = s.intFlag := rfl
@[simp] theorem setReg8_intEnable (r : Reg8) (v : Byte) : (s.setReg8 r v).intEnable = s.intEnable := rfl
@[simp] theorem setReg8_ppu (r : Reg8) (v : Byte) : (s.setReg8 r v).ppu = s.ppu := rfl
@[simp] theorem setReg8_dma (r : Reg8) (v : Byte) : (s.setReg8 r v).dma = s.dma := rfl
@[simp] theorem setReg8_illegalMode (r : Reg8) (v : Byte) : (s.setReg8 r v).illegalMode = s.illegalMode := rfl
@[simp] theorem setReg8_host (r : Reg8) (v : Byte) : (s.setReg8 r v).host = s.host := rfl
@[simp] theorem setReg8_cpu_flags (r : Reg8) (v : Byte) : (s.setReg8 r v).cpu.flags = s.cpu.flags := by cases r <;> rfl
@[simp] theorem setReg8_cpu_sp (r : Reg8) (v : Byte) : (s.setReg8 r v).cpu.sp = s.cpu.sp := by cases r <;> rfl
@[simp] theorem setReg8_cpu_pc (r : Reg8) (v : Byte) : (s.setReg8 r v).cpu.pc = s.cpu.pc := by cases r <;> rfl
@[simp] theorem setReg8_cpu_ime (r : Reg8) (v : Byte) : (s.setReg8 r v).cpu.ime = s.cpu.ime := by cases r <;> rfl
@[simp] theorem setReg8_cpu_eiDelay (r : Reg8) (v : Byte) : (s.setReg8 r v).cpu.eiDelay = s.cpu.eiDelay := by cases r <;> rfl
@[simp] theorem setReg8_cpu_mode (r : Reg8) (v : Byte) : (s.setReg8 r v).cpu.mode = s.cpu.mode := by cases r <;> rfl
@[simp] theorem setReg8_cpu_faultRecord (r : Reg8) (v : Byte) : (s.setReg8 r v).cpu.faultRecord = s.cpu.faultRecord := by cases r <;> rfl
@[simp] theorem setReg8_flags (r : Reg8) (v : Byte) : (s.setReg8 r v).flags = s.flags := by cases r <;> rfl
@[simp] theorem setReg8_sp (r : Reg8) (v : Byte) : (s.setReg8 r v).sp = s.sp := by cases r <;> rfl
@[simp] theorem setReg8_pc (r : Reg8) (v : Byte) : (s.setReg8 r v).pc = s.pc := by cases r <;> rfl
@[simp] theorem setReg8_read (r : Reg8) (v : Byte) (addr : Word) : (s.setReg8 r v).read addr = s.read addr := rfl

/-! ### `setFlags` -/

@[simp] theorem setFlags_vram (f : Flags) : (s.setFlags f).vram = s.vram := rfl
@[simp] theorem setFlags_wram (f : Flags) : (s.setFlags f).wram = s.wram := rfl
@[simp] theorem setFlags_oam (f : Flags) : (s.setFlags f).oam = s.oam := rfl
@[simp] theorem setFlags_hram (f : Flags) : (s.setFlags f).hram = s.hram := rfl
@[simp] theorem setFlags_cart (f : Flags) : (s.setFlags f).cart = s.cart := rfl
@[simp] theorem setFlags_joypad (f : Flags) : (s.setFlags f).joypad = s.joypad := rfl
@[simp] theorem setFlags_serial (f : Flags) : (s.setFlags f).serial = s.serial := rfl
@[simp] theorem setFlags_timer (f : Flags) : (s.setFlags f).timer = s.timer := rfl
@[simp] theorem setFlags_intFlag (f : Flags) : (s.setFlags f).intFlag = s.intFlag := rfl
@[simp] theorem setFlags_intEnable (f : Flags) : (s.setFlags f).intEnable = s.intEnable := rfl
@[simp] theorem setFlags_ppu (f : Flags) : (s.setFlags f).ppu = s.ppu := rfl
@[simp] theorem setFlags_dma (f : Flags) : (s.setFlags f).dma = s.dma := rfl
@[simp] theorem setFlags_illegalMode (f : Flags) : (s.setFlags f).illegalMode = s.illegalMode := rfl
@[simp] theorem setFlags_host (f : Flags) : (s.setFlags f).host = s.host := rfl
@[simp] theorem setFlags_cpu_a (f : Flags) : (s.setFlags f).cpu.a = s.cpu.a := rfl
@[simp] theorem setFlags_cpu_flags (f : Flags) : (s.setFlags f).cpu.flags = f := rfl
@[simp] theorem setFlags_cpu_b (f : Flags) : (s.setFlags f).cpu.b = s.cpu.b := rfl
@[simp] theorem setFlags_cpu_c (f : Flags) : (s.setFlags f).cpu.c = s.cpu.c := rfl
@[simp] theorem setFlags_cpu_d (f : Flags) : (s.setFlags f).cpu.d = s.cpu.d := rfl
@[simp] theorem setFlags_cpu_e (f : Flags) : (s.setFlags f).cpu.e = s.cpu.e := rfl
@[simp] theorem setFlags_cpu_h (f : Flags) : (s.setFlags f).cpu.h = s.cpu.h := rfl
@[simp] theorem setFlags_cpu_l (f : Flags) : (s.setFlags f).cpu.l = s.cpu.l := rfl
@[simp] theorem setFlags_cpu_sp (f : Flags) : (s.setFlags f).cpu.sp = s.cpu.sp := rfl
@[simp] theorem setFlags_cpu_pc (f : Flags) : (s.setFlags f).cpu.pc = s.cpu.pc := rfl
@[simp] theorem setFlags_cpu_ime (f : Flags) : (s.setFlags f).cpu.ime = s.cpu.ime := rfl
@[simp] theorem setFlags_cpu_eiDelay (f : Flags) : (s.setFlags f).cpu.eiDelay = s.cpu.eiDelay := rfl
@[simp] theorem setFlags_cpu_mode (f : Flags) : (s.setFlags f).cpu.mode = s.cpu.mode := rfl
@[simp] theorem setFlags_cpu_faultRecord (f : Flags) : (s.setFlags f).cpu.faultRecord = s.cpu.faultRecord := rfl
@[simp] theorem setFlags_reg8 (f : Flags) (q : Reg8) : (s.setFlags f).reg8 q = s.reg8 q := by cases q <;> rfl
@[simp] theorem setFlags_flags (f : Flags) : (s.setFlags f).flags = f := rfl
@[simp] theorem setFlags_sp (f : Flags) : (s.setFlags f).sp = s.sp := rfl
@[simp] theorem setFlags_pc (f : Flags) : (s.setFlags f).pc = s.pc := rfl
@[simp] theorem setFlags_read (f : Flags) (addr : Word) : (s.setFlags f).read addr = s.read addr := rfl

/-! ### `setPc` -/

@[simp] theorem setPc_vram (v : Word) : (s.setPc v).vram = s.vram := rfl
@[simp] theorem setPc_wram (v : Word) : (s.setPc v).wram = s.wram := rfl
@[simp] theorem setPc_oam (v : Word) : (s.setPc v).oam = s.oam := rfl
@[simp] theorem setPc_hram (v : Word) : (s.setPc v).hram = s.hram := rfl
@[simp] theorem setPc_cart (v : Word) : (s.setPc v).cart = s.cart := rfl
@[simp] theorem setPc_joypad (v : Word) : (s.setPc v).joypad = s.joypad := rfl
@[simp] theorem setPc_serial (v : Word) : (s.setPc v).serial = s.serial := rfl
@[simp] theorem setPc_timer (v : Word) : (s.setPc v).timer = s.timer := rfl
@[simp] theorem setPc_intFlag (v : Word) : (s.setPc v).intFlag = s.intFlag := rfl
@[simp] theorem setPc_intEnable (v : Word) : (s.setPc v).intEnable = s.intEnable := rfl
@[simp] theorem setPc_ppu (v : Word) : (s.setPc v).ppu = s.ppu := rfl
@[simp] theorem setPc_dma (v : Word) : (s.setPc v).dma = s.dma := rfl
@[simp] theorem setPc_illegalMode (v : Word) : (s.setPc v).illegalMode = s.illegalMode := rfl
@[simp] theorem setPc_host (v : Word) : (s.setPc v).host = s.host := rfl
@[simp] theorem setPc_cpu_a (v : Word) : (s.setPc v).cpu.a = s.cpu.a := rfl
@[simp] theorem setPc_cpu_flags (v : Word) : (s.setPc v).cpu.flags = s.cpu.flags := rfl
@[simp] theorem setPc_cpu_b (v : Word) : (s.setPc v).cpu.b = s.cpu.b := rfl
@[simp] theorem setPc_cpu_c (v : Word) : (s.setPc v).cpu.c = s.cpu.c := rfl
@[simp] theorem setPc_cpu_d (v : Word) : (s.setPc v).cpu.d = s.cpu.d := rfl
@[simp] theorem setPc_cpu_e (v : Word) : (s.setPc v).cpu.e = s.cpu.e := rfl
@[simp] theorem setPc_cpu_h (v : Word) : (s.setPc v).cpu.h = s.cpu.h := rfl
@[simp] theorem setPc_cpu_l (v : Word) : (s.setPc v).cpu.l = s.cpu.l := rfl
@[simp] theorem setPc_cpu_sp (v : Word) : (s.setPc v).cpu.sp = s.cpu.sp := rfl
@[simp] theorem setPc_cpu_pc (v : Word) : (s.setPc v).cpu.pc = v := rfl
@[simp] theorem setPc_cpu_ime (v : Word) : (s.setPc v).cpu.ime = s.cpu.ime := rfl
@[simp] theorem setPc_cpu_eiDelay (v : Word) : (s.setPc v).cpu.eiDelay = s.cpu.eiDelay := rfl
@[simp] theorem setPc_cpu_mode (v : Word) : (s.setPc v).cpu.mode = s.cpu.mode := rfl
@[simp] theorem setPc_cpu_faultRecord (v : Word) : (s.setPc v).cpu.faultRecord = s.cpu.faultRecord := rfl
@[simp] theorem setPc_reg8 (v : Word) (q : Reg8) : (s.setPc v).reg8 q = s.reg8 q := by cases q <;> rfl
@[simp] theorem setPc_flags (v : Word) : (s.setPc v).flags = s.flags := rfl
@[simp] theorem setPc_sp (v : Word) : (s.setPc v).sp = s.sp := rfl
@[simp] theorem setPc_pc (v : Word) : (s.setPc v).pc = v := rfl
@[simp] theorem setPc_read (v : Word) (addr : Word) : (s.setPc v).read addr = s.read addr := rfl

/-! ### `setSp` -/

@[simp] theorem setSp_vram (v : Word) : (s.setSp v).vram = s.vram := rfl
@[simp] theorem setSp_wram (v : Word) : (s.setSp v).wram = s.wram := rfl
@[simp] theorem setSp_oam (v : Word) : (s.setSp v).oam = s.oam := rfl
@[simp] theorem setSp_hram (v : Word) : (s.setSp v).hram = s.hram := rfl
@[simp] theorem setSp_cart (v : Word) : (s.setSp v).cart = s.cart := rfl
@[simp] theorem setSp_joypad (v : Word) : (s.setSp v).joypad = s.joypad := rfl
@[simp] theorem setSp_serial (v : Word) : (s.setSp v).serial = s.serial := rfl
@[simp] theorem setSp_timer (v : Word) : (s.setSp v).timer = s.timer := rfl
@[simp] theorem setSp_intFlag (v : Word) : (s.setSp v).intFlag = s.intFlag := rfl
@[simp] theorem setSp_intEnable (v : Word) : (s.setSp v).intEnable = s.intEnable := rfl
@[simp] theorem setSp_ppu (v : Word) : (s.setSp v).ppu = s.ppu := rfl
@[simp] theorem setSp_dma (v : Word) : (s.setSp v).dma = s.dma := rfl
@[simp] theorem setSp_illegalMode (v : Word) : (s.setSp v).illegalMode = s.illegalMode := rfl
@[simp] theorem setSp_host (v : Word) : (s.setSp v).host = s.host := rfl
@[simp] theorem setSp_cpu_a (v : Word) : (s.setSp v).cpu.a = s.cpu.a := rfl
@[simp] theorem setSp_cpu_flags (v : Word) : (s.setSp v).cpu.flags = s.cpu.flags := rfl
@[simp] theorem setSp_cpu_b (v : Word) : (s.setSp v).cpu.b = s.cpu.b := rfl
@[simp] theorem setSp_cpu_c (v : Word) : (s.setSp v).cpu.c = s.cpu.c := rfl
@[simp] theorem setSp_cpu_d (v : Word) : (s.setSp v).cpu.d = s.cpu.d := rfl
@[simp] theorem setSp_cpu_e (v : Word) : (s.setSp v).cpu.e = s.cpu.e := rfl
@[simp] theorem setSp_cpu_h (v : Word) : (s.setSp v).cpu.h = s.cpu.h := rfl
@[simp] theorem setSp_cpu_l (v : Word) : (s.setSp v).cpu.l = s.cpu.l := rfl
@[simp] theorem setSp_cpu_sp (v : Word) : (s.setSp v).cpu.sp = v := rfl
@[simp] theorem setSp_cpu_pc (v : Word) : (s.setSp v).cpu.pc = s.cpu.pc := rfl
@[simp] theorem setSp_cpu_ime (v : Word) : (s.setSp v).cpu.ime = s.cpu.ime := rfl
@[simp] theorem setSp_cpu_eiDelay (v : Word) : (s.setSp v).cpu.eiDelay = s.cpu.eiDelay := rfl
@[simp] theorem setSp_cpu_mode (v : Word) : (s.setSp v).cpu.mode = s.cpu.mode := rfl
@[simp] theorem setSp_cpu_faultRecord (v : Word) : (s.setSp v).cpu.faultRecord = s.cpu.faultRecord := rfl
@[simp] theorem setSp_reg8 (v : Word) (q : Reg8) : (s.setSp v).reg8 q = s.reg8 q := by cases q <;> rfl
@[simp] theorem setSp_flags (v : Word) : (s.setSp v).flags = s.flags := rfl
@[simp] theorem setSp_sp (v : Word) : (s.setSp v).sp = v := rfl
@[simp] theorem setSp_pc (v : Word) : (s.setSp v).pc = s.pc := rfl
@[simp] theorem setSp_read (v : Word) (addr : Word) : (s.setSp v).read addr = s.read addr := rfl

/-! ### `setIme` -/

@[simp] theorem setIme_vram (v : Bool) : (s.setIme v).vram = s.vram := rfl
@[simp] theorem setIme_wram (v : Bool) : (s.setIme v).wram = s.wram := rfl
@[simp] theorem setIme_oam (v : Bool) : (s.setIme v).oam = s.oam := rfl
@[simp] theorem setIme_hram (v : Bool) : (s.setIme v).hram = s.hram := rfl
@[simp] theorem setIme_cart (v : Bool) : (s.setIme v).cart = s.cart := rfl
@[simp] theorem setIme_joypad (v : Bool) : (s.setIme v).joypad = s.joypad := rfl
@[simp] theorem setIme_serial (v : Bool) : (s.setIme v).serial = s.serial := rfl
@[simp] theorem setIme_timer (v : Bool) : (s.setIme v).timer = s.timer := rfl
@[simp] theorem setIme_intFlag (v : Bool) : (s.setIme v).intFlag = s.intFlag := rfl
@[simp] theorem setIme_intEnable (v : Bool) : (s.setIme v).intEnable = s.intEnable := rfl
@[simp] theorem setIme_ppu (v : Bool) : (s.setIme v).ppu = s.ppu := rfl
@[simp] theorem setIme_dma (v : Bool) : (s.setIme v).dma = s.dma := rfl
@[simp] theorem setIme_illegalMode (v : Bool) : (s.setIme v).illegalMode = s.illegalMode := rfl
@[simp] theorem setIme_host (v : Bool) : (s.setIme v).host = s.host := rfl
@[simp] theorem setIme_cpu_a (v : Bool) : (s.setIme v).cpu.a = s.cpu.a := rfl
@[simp] theorem setIme_cpu_flags (v : Bool) : (s.setIme v).cpu.flags = s.cpu.flags := rfl
@[simp] theorem setIme_cpu_b (v : Bool) : (s.setIme v).cpu.b = s.cpu.b := rfl
@[simp] theorem setIme_cpu_c (v : Bool) : (s.setIme v).cpu.c = s.cpu.c := rfl
@[simp] theorem setIme_cpu_d (v : Bool) : (s.setIme v).cpu.d = s.cpu.d := rfl
@[simp] theorem setIme_cpu_e (v : Bool) : (s.setIme v).cpu.e = s.cpu.e := rfl
@[simp] theorem setIme_cpu_h (v : Bool) : (s.setIme v).cpu.h = s.cpu.h := rfl
@[simp] theorem setIme_cpu_l (v : Bool) : (s.setIme v).cpu.l = s.cpu.l := rfl
@[simp] theorem setIme_cpu_sp (v : Bool) : (s.setIme v).cpu.sp = s.cpu.sp := rfl
@[simp] theorem setIme_cpu_pc (v : Bool) : (s.setIme v).cpu.pc = s.cpu.pc := rfl
@[simp] theorem setIme_cpu_ime (v : Bool) : (s.setIme v).cpu.ime = v := rfl
@[simp] theorem setIme_cpu_eiDelay (v : Bool) : (s.setIme v).cpu.eiDelay = s.cpu.eiDelay := rfl
@[simp] theorem setIme_cpu_mode (v : Bool) : (s.setIme v).cpu.mode = s.cpu.mode := rfl
@[simp] theorem setIme_cpu_faultRecord (v : Bool) : (s.setIme v).cpu.faultRecord = s.cpu.faultRecord := rfl
@[simp] theorem setIme_reg8 (v : Bool) (q : Reg8) : (s.setIme v).reg8 q = s.reg8 q := by cases q <;> rfl
@[simp] theorem setIme_flags (v : Bool) : (s.setIme v).flags = s.flags := rfl
@[simp] theorem setIme_sp (v : Bool) : (s.setIme v).sp = s.sp := rfl
@[simp] theorem setIme_pc (v : Bool) : (s.setIme v).pc = s.pc := rfl
@[simp] theorem setIme_read (v : Bool) (addr : Word) : (s.setIme v).read addr = s.read addr := rfl

/-! ### `setEiDelay` -/

@[simp] theorem setEiDelay_vram (v : Nat) : (s.setEiDelay v).vram = s.vram := rfl
@[simp] theorem setEiDelay_wram (v : Nat) : (s.setEiDelay v).wram = s.wram := rfl
@[simp] theorem setEiDelay_oam (v : Nat) : (s.setEiDelay v).oam = s.oam := rfl
@[simp] theorem setEiDelay_hram (v : Nat) : (s.setEiDelay v).hram = s.hram := rfl
@[simp] theorem setEiDelay_cart (v : Nat) : (s.setEiDelay v).cart = s.cart := rfl
@[simp] theorem setEiDelay_joypad (v : Nat) : (s.setEiDelay v).joypad = s.joypad := rfl
@[simp] theorem setEiDelay_serial (v : Nat) : (s.setEiDelay v).serial = s.serial := rfl
@[simp] theorem setEiDelay_timer (v : Nat) : (s.setEiDelay v).timer = s.timer := rfl
@[simp] theorem setEiDelay_intFlag (v : Nat) : (s.setEiDelay v).intFlag = s.intFlag := rfl
@[simp] theorem setEiDelay_intEnable (v : Nat) : (s.setEiDelay v).intEnable = s.intEnable := rfl
@[simp] theorem setEiDelay_ppu (v : Nat) : (s.setEiDelay v).ppu = s.ppu := rfl
@[simp] theorem setEiDelay_dma (v : Nat) : (s.setEiDelay v).dma = s.dma := rfl
@[simp] theorem setEiDelay_illegalMode (v : Nat) : (s.setEiDelay v).illegalMode = s.illegalMode := rfl
@[simp] theorem setEiDelay_host (v : Nat) : (s.setEiDelay v).host = s.host := rfl
@[simp] theorem setEiDelay_cpu_a (v : Nat) : (s.setEiDelay v).cpu.a = s.cpu.a := rfl
@[simp] theorem setEiDelay_cpu_flags (v : Nat) : (s.setEiDelay v).cpu.flags = s.cpu.flags := rfl
@[simp] theorem setEiDelay_cpu_b (v : Nat) : (s.setEiDelay v).cpu.b = s.cpu.b := rfl
@[simp] theorem setEiDelay_cpu_c (v : Nat) : (s.setEiDelay v).cpu.c = s.cpu.c := rfl
@[simp] theorem setEiDelay_cpu_d (v : Nat) : (s.setEiDelay v).cpu.d = s.cpu.d := rfl
@[simp] theorem setEiDelay_cpu_e (v : Nat) : (s.setEiDelay v).cpu.e = s.cpu.e := rfl
@[simp] theorem setEiDelay_cpu_h (v : Nat) : (s.setEiDelay v).cpu.h = s.cpu.h := rfl
@[simp] theorem setEiDelay_cpu_l (v : Nat) : (s.setEiDelay v).cpu.l = s.cpu.l := rfl
@[simp] theorem setEiDelay_cpu_sp (v : Nat) : (s.setEiDelay v).cpu.sp = s.cpu.sp := rfl
@[simp] theorem setEiDelay_cpu_pc (v : Nat) : (s.setEiDelay v).cpu.pc = s.cpu.pc := rfl
@[simp] theorem setEiDelay_cpu_ime (v : Nat) : (s.setEiDelay v).cpu.ime = s.cpu.ime := rfl
@[simp] theorem setEiDelay_cpu_eiDelay (v : Nat) : (s.setEiDelay v).cpu.eiDelay = v := rfl
@[simp] theorem setEiDelay_cpu_mode (v : Nat) : (s.setEiDelay v).cpu.mode = s.cpu.mode := rfl
@[simp] theorem setEiDelay_cpu_faultRecord (v : Nat) : (s.setEiDelay v).cpu.faultRecord = s.cpu.faultRecord := rfl
@[simp] theorem setEiDelay_reg8 (v : Nat) (q : Reg8) : (s.setEiDelay v).reg8 q = s.reg8 q := by cases q <;> rfl
@[simp] theorem setEiDelay_flags (v : Nat) : (s.setEiDelay v).flags = s.flags := rfl
@[simp] theorem setEiDelay_sp (v : Nat) : (s.setEiDelay v).sp = s.sp := rfl
@[simp] theorem setEiDelay_pc (v : Nat) : (s.setEiDelay v).pc = s.pc := rfl
@[simp] theorem setEiDelay_read (v : Nat) (addr : Word) : (s.setEiDelay v).read addr = s.read addr := rfl

/-! ### `setMode` -/

@[simp] theorem setMode_vram (v : CpuMode) : (s.setMode v).vram = s.vram := rfl
@[simp] theorem setMode_wram (v : CpuMode) : (s.setMode v).wram = s.wram := rfl
@[simp] theorem setMode_oam (v : CpuMode) : (s.setMode v).oam = s.oam := rfl
@[simp] theorem setMode_hram (v : CpuMode) : (s.setMode v).hram = s.hram := rfl
@[simp] theorem setMode_cart (v : CpuMode) : (s.setMode v).cart = s.cart := rfl
@[simp] theorem setMode_joypad (v : CpuMode) : (s.setMode v).joypad = s.joypad := rfl
@[simp] theorem setMode_serial (v : CpuMode) : (s.setMode v).serial = s.serial := rfl
@[simp] theorem setMode_timer (v : CpuMode) : (s.setMode v).timer = s.timer := rfl
@[simp] theorem setMode_intFlag (v : CpuMode) : (s.setMode v).intFlag = s.intFlag := rfl
@[simp] theorem setMode_intEnable (v : CpuMode) : (s.setMode v).intEnable = s.intEnable := rfl
@[simp] theorem setMode_ppu (v : CpuMode) : (s.setMode v).ppu = s.ppu := rfl
@[simp] theorem setMode_dma (v : CpuMode) : (s.setMode v).dma = s.dma := rfl
@[simp] theorem setMode_illegalMode (v : CpuMode) : (s.setMode v).illegalMode = s.illegalMode := rfl
@[simp] theorem setMode_host (v : CpuMode) : (s.setMode v).host = s.host := rfl
@[simp] theorem setMode_cpu_a (v : CpuMode) : (s.setMode v).cpu.a = s.cpu.a := rfl
@[simp] theorem setMode_cpu_flags (v : CpuMode) : (s.setMode v).cpu.flags = s.cpu.flags := rfl
@[simp] theorem setMode_cpu_b (v : CpuMode) : (s.setMode v).cpu.b = s.cpu.b := rfl
@[simp] theorem setMode_cpu_c (v : CpuMode) : (s.setMode v).cpu.c = s.cpu.c := rfl
@[simp] theorem setMode_cpu_d (v : CpuMode) : (s.setMode v).cpu.d = s.cpu.d := rfl
@[simp] theorem setMode_cpu_e (v : CpuMode) : (s.setMode v).cpu.e = s.cpu.e := rfl
@[simp] theorem setMode_cpu_h (v : CpuMode) : (s.setMode v).cpu.h = s.cpu.h := rfl
@[simp] theorem setMode_cpu_l (v : CpuMode) : (s.setMode v).cpu.l = s.cpu.l := rfl
@[simp] theorem setMode_cpu_sp (v : CpuMode) : (s.setMode v).cpu.sp = s.cpu.sp := rfl
@[simp] theorem setMode_cpu_pc (v : CpuMode) : (s.setMode v).cpu.pc = s.cpu.pc := rfl
@[simp] theorem setMode_cpu_ime (v : CpuMode) : (s.setMode v).cpu.ime = s.cpu.ime := rfl
@[simp] theorem setMode_cpu_eiDelay (v : CpuMode) : (s.setMode v).cpu.eiDelay = s.cpu.eiDelay := rfl
@[simp] theorem setMode_cpu_mode (v : CpuMode) : (s.setMode v).cpu.mode = v := rfl
@[simp] theorem setMode_cpu_faultRecord (v : CpuMode) : (s.setMode v).cpu.faultRecord = s.cpu.faultRecord := rfl
@[simp] theorem setMode_reg8 (v : CpuMode) (q : Reg8) : (s.setMode v).reg8 q = s.reg8 q := by cases q <;> rfl
@[simp] theorem setMode_flags (v : CpuMode) : (s.setMode v).flags = s.flags := rfl
@[simp] theorem setMode_sp (v : CpuMode) : (s.setMode v).sp = s.sp := rfl
@[simp] theorem setMode_pc (v : CpuMode) : (s.setMode v).pc = s.pc := rfl
@[simp] theorem setMode_read (v : CpuMode) (addr : Word) : (s.setMode v).read addr = s.read addr := rfl

/-! ### `took` -/

@[simp] theorem took_cpu (n : Nat) : (s.took n).cpu = s.cpu := rfl
@[simp] theorem took_vram (n : Nat) : (s.took n).vram = s.vram := rfl
@[simp] theorem took_wram (n : Nat) : (s.took n).wram = s.wram := rfl
@[simp] theorem took_oam (n : Nat) : (s.took n).oam = s.oam := rfl
@[simp] theorem took_hram (n : Nat) : (s.took n).hram = s.hram := rfl
@[simp] theorem took_cart (n : Nat) : (s.took n).cart = s.cart := rfl
@[simp] theorem took_joypad (n : Nat) : (s.took n).joypad = s.joypad := rfl
@[simp] theorem took_serial (n : Nat) : (s.took n).serial = s.serial := rfl
@[simp] theorem took_timer (n : Nat) : (s.took n).timer = s.timer := rfl
@[simp] theorem took_intFlag (n : Nat) : (s.took n).intFlag = s.intFlag := rfl
@[simp] theorem took_intEnable (n : Nat) : (s.took n).intEnable = s.intEnable := rfl
@[simp] theorem took_ppu (n : Nat) : (s.took n).ppu = s.ppu := rfl
@[simp] theorem took_dma (n : Nat) : (s.took n).dma = s.dma := rfl
@[simp] theorem took_illegalMode (n : Nat) : (s.took n).illegalMode = s.illegalMode := rfl
@[simp] theorem took_cycles (n : Nat) : (s.took n).host.cycles = n := rfl
@[simp] theorem took_exit (n : Nat) : (s.took n).host.exit = s.host.exit := rfl
@[simp] theorem took_rtcSamples (n : Nat) : (s.took n).host.rtcSamples = s.host.rtcSamples := rfl
@[simp] theorem took_rtcWrites (n : Nat) : (s.took n).host.rtcWrites = s.host.rtcWrites := rfl
@[simp] theorem took_reg8 (n : Nat) (q : Reg8) : (s.took n).reg8 q = s.reg8 q := by cases q <;> rfl
@[simp] theorem took_flags (n : Nat) : (s.took n).flags = s.flags := rfl
@[simp] theorem took_sp (n : Nat) : (s.took n).sp = s.sp := rfl
@[simp] theorem took_pc (n : Nat) : (s.took n).pc = s.pc := rfl
@[simp] theorem took_read (n : Nat) (addr : Word) : (s.took n).read addr = s.read addr := rfl

/-! ### `returns` -/

@[simp] theorem returns_cpu (n : Nat) (x : ExitReason) : (s.returns n x).cpu = s.cpu := rfl
@[simp] theorem returns_vram (n : Nat) (x : ExitReason) : (s.returns n x).vram = s.vram := rfl
@[simp] theorem returns_wram (n : Nat) (x : ExitReason) : (s.returns n x).wram = s.wram := rfl
@[simp] theorem returns_oam (n : Nat) (x : ExitReason) : (s.returns n x).oam = s.oam := rfl
@[simp] theorem returns_hram (n : Nat) (x : ExitReason) : (s.returns n x).hram = s.hram := rfl
@[simp] theorem returns_cart (n : Nat) (x : ExitReason) : (s.returns n x).cart = s.cart := rfl
@[simp] theorem returns_joypad (n : Nat) (x : ExitReason) : (s.returns n x).joypad = s.joypad := rfl
@[simp] theorem returns_serial (n : Nat) (x : ExitReason) : (s.returns n x).serial = s.serial := rfl
@[simp] theorem returns_timer (n : Nat) (x : ExitReason) : (s.returns n x).timer = s.timer := rfl
@[simp] theorem returns_intFlag (n : Nat) (x : ExitReason) : (s.returns n x).intFlag = s.intFlag := rfl
@[simp] theorem returns_intEnable (n : Nat) (x : ExitReason) : (s.returns n x).intEnable = s.intEnable := rfl
@[simp] theorem returns_ppu (n : Nat) (x : ExitReason) : (s.returns n x).ppu = s.ppu := rfl
@[simp] theorem returns_dma (n : Nat) (x : ExitReason) : (s.returns n x).dma = s.dma := rfl
@[simp] theorem returns_illegalMode (n : Nat) (x : ExitReason) : (s.returns n x).illegalMode = s.illegalMode := rfl
@[simp] theorem returns_cycles (n : Nat) (x : ExitReason) : (s.returns n x).host.cycles = n := rfl
@[simp] theorem returns_exit (n : Nat) (x : ExitReason) : (s.returns n x).host.exit = x := rfl
@[simp] theorem returns_rtcSamples (n : Nat) (x : ExitReason) : (s.returns n x).host.rtcSamples = s.host.rtcSamples := rfl
@[simp] theorem returns_rtcWrites (n : Nat) (x : ExitReason) : (s.returns n x).host.rtcWrites = s.host.rtcWrites := rfl
@[simp] theorem returns_reg8 (n : Nat) (x : ExitReason) (q : Reg8) : (s.returns n x).reg8 q = s.reg8 q := by cases q <;> rfl
@[simp] theorem returns_flags (n : Nat) (x : ExitReason) : (s.returns n x).flags = s.flags := rfl
@[simp] theorem returns_sp (n : Nat) (x : ExitReason) : (s.returns n x).sp = s.sp := rfl
@[simp] theorem returns_pc (n : Nat) (x : ExitReason) : (s.returns n x).pc = s.pc := rfl
@[simp] theorem returns_read (n : Nat) (x : ExitReason) (addr : Word) : (s.returns n x).read addr = s.read addr := rfl

/-! ### `request` -/

@[simp] theorem request_cpu (i : Interrupt) (raised : Bool) : (s.request i raised).cpu = s.cpu := rfl
@[simp] theorem request_vram (i : Interrupt) (raised : Bool) : (s.request i raised).vram = s.vram := rfl
@[simp] theorem request_wram (i : Interrupt) (raised : Bool) : (s.request i raised).wram = s.wram := rfl
@[simp] theorem request_oam (i : Interrupt) (raised : Bool) : (s.request i raised).oam = s.oam := rfl
@[simp] theorem request_hram (i : Interrupt) (raised : Bool) : (s.request i raised).hram = s.hram := rfl
@[simp] theorem request_cart (i : Interrupt) (raised : Bool) : (s.request i raised).cart = s.cart := rfl
@[simp] theorem request_joypad (i : Interrupt) (raised : Bool) : (s.request i raised).joypad = s.joypad := rfl
@[simp] theorem request_serial (i : Interrupt) (raised : Bool) : (s.request i raised).serial = s.serial := rfl
@[simp] theorem request_timer (i : Interrupt) (raised : Bool) : (s.request i raised).timer = s.timer := rfl
@[simp] theorem request_intEnable (i : Interrupt) (raised : Bool) : (s.request i raised).intEnable = s.intEnable := rfl
@[simp] theorem request_ppu (i : Interrupt) (raised : Bool) : (s.request i raised).ppu = s.ppu := rfl
@[simp] theorem request_dma (i : Interrupt) (raised : Bool) : (s.request i raised).dma = s.dma := rfl
@[simp] theorem request_illegalMode (i : Interrupt) (raised : Bool) : (s.request i raised).illegalMode = s.illegalMode := rfl
@[simp] theorem request_host (i : Interrupt) (raised : Bool) : (s.request i raised).host = s.host := rfl
@[simp] theorem request_reg8 (i : Interrupt) (raised : Bool) (q : Reg8) : (s.request i raised).reg8 q = s.reg8 q := by cases q <;> rfl
@[simp] theorem request_flags (i : Interrupt) (raised : Bool) : (s.request i raised).flags = s.flags := rfl
@[simp] theorem request_sp (i : Interrupt) (raised : Bool) : (s.request i raised).sp = s.sp := rfl
@[simp] theorem request_pc (i : Interrupt) (raised : Bool) : (s.request i raised).pc = s.pc := rfl

/-! ### Reading a register after writing one -/

theorem setReg8_reg8 (r q : Reg8) (v : Byte) : (s.setReg8 r v).reg8 q = if q = r then v else s.reg8 q := by
  cases r <;> cases q <;> rfl

@[simp] theorem setReg8_reg8_same (r : Reg8) (v : Byte) : (s.setReg8 r v).reg8 r = v := by cases r <;> rfl

theorem setReg8_reg8_other {r q : Reg8} (v : Byte) (h : q ≠ r) : (s.setReg8 r v).reg8 q = s.reg8 q := by
  rw [setReg8_reg8, if_neg h]

/-! ### Pairs -/

theorem toNat_highByte (v : Word) : (highByte v).toNat = v.toNat / 256 := by
  have := v.isLt
  simp only [highByte, BitVec.extractLsb'_toNat, Nat.shiftRight_eq_div_pow]
  omega

theorem toNat_lowByte (v : Word) : (lowByte v).toNat = v.toNat % 256 := by
  simp [lowByte, BitVec.extractLsb'_toNat]

theorem toNat_joinBytes (hi lo : Byte) : (joinBytes hi lo).toNat = hi.toNat * 256 + lo.toNat := by
  have h := lo.isLt
  simp only [joinBytes]
  rw [BitVec.toNat_append, Nat.shiftLeft_eq, Nat.mul_comm, ← Nat.two_pow_add_eq_or_of_lt h]

@[simp] theorem joinBytes_split (v : Word) : joinBytes (highByte v) (lowByte v) = v := by
  apply BitVec.eq_of_toNat_eq
  rw [toNat_joinBytes, toNat_highByte, toNat_lowByte]
  omega

@[simp] theorem highByte_joinBytes (hi lo : Byte) : highByte (joinBytes hi lo) = hi := by
  apply BitVec.eq_of_toNat_eq
  have := lo.isLt
  rw [toNat_highByte, toNat_joinBytes]
  omega

@[simp] theorem lowByte_joinBytes (hi lo : Byte) : lowByte (joinBytes hi lo) = lo := by
  apply BitVec.eq_of_toNat_eq
  have := lo.isLt
  rw [toNat_lowByte, toNat_joinBytes]
  omega

/-- R52: a byte of flags read back. -/
@[simp] theorem ofByte_toByte (f : Flags) : Flags.ofByte f.toByte = f := by
  obtain ⟨z, n, h, c⟩ := f
  cases z <;> cases n <;> cases h <;> cases c <;> rfl

/-- R52: F's low four bits equal 0. -/
@[simp] theorem toByte_low (f : Flags) : f.toByte.extractLsb' 0 4 = 0#4 := by
  obtain ⟨z, n, h, c⟩ := f
  cases z <;> cases n <;> cases h <;> cases c <;> rfl

@[simp] theorem setPair_bc (v : Word) : (s.setPair .b .c v).bc = v := joinBytes_split v
@[simp] theorem setPair_de (v : Word) : (s.setPair .d .e v).de = v := joinBytes_split v
@[simp] theorem setPair_hl (v : Word) : (s.setPair .h .l v).hl = v := joinBytes_split v
@[simp] theorem setHl_hl (v : Word) : (s.setHl v).hl = v := joinBytes_split v

theorem setPair_reg8_other {x y q : Reg8} (v : Word) (hx : q ≠ x) (hy : q ≠ y) :
    (s.setPair x y v).reg8 q = s.reg8 q := by
  rw [State.setPair, setReg8_reg8_other _ _ hy, setReg8_reg8_other _ _ hx]

@[simp] theorem setPair_vram (x y : Reg8) (v : Word) : (s.setPair x y v).vram = s.vram := rfl
@[simp] theorem setPair_wram (x y : Reg8) (v : Word) : (s.setPair x y v).wram = s.wram := rfl
@[simp] theorem setPair_oam (x y : Reg8) (v : Word) : (s.setPair x y v).oam = s.oam := rfl
@[simp] theorem setPair_hram (x y : Reg8) (v : Word) : (s.setPair x y v).hram = s.hram := rfl
@[simp] theorem setPair_cart (x y : Reg8) (v : Word) : (s.setPair x y v).cart = s.cart := rfl
@[simp] theorem setPair_joypad (x y : Reg8) (v : Word) : (s.setPair x y v).joypad = s.joypad := rfl
@[simp] theorem setPair_serial (x y : Reg8) (v : Word) : (s.setPair x y v).serial = s.serial := rfl
@[simp] theorem setPair_timer (x y : Reg8) (v : Word) : (s.setPair x y v).timer = s.timer := rfl
@[simp] theorem setPair_intFlag (x y : Reg8) (v : Word) : (s.setPair x y v).intFlag = s.intFlag := rfl
@[simp] theorem setPair_intEnable (x y : Reg8) (v : Word) : (s.setPair x y v).intEnable = s.intEnable := rfl
@[simp] theorem setPair_ppu (x y : Reg8) (v : Word) : (s.setPair x y v).ppu = s.ppu := rfl
@[simp] theorem setPair_dma (x y : Reg8) (v : Word) : (s.setPair x y v).dma = s.dma := rfl
@[simp] theorem setPair_illegalMode (x y : Reg8) (v : Word) : (s.setPair x y v).illegalMode = s.illegalMode := rfl
@[simp] theorem setPair_host (x y : Reg8) (v : Word) : (s.setPair x y v).host = s.host := rfl
@[simp] theorem setPair_cpu_flags (x y : Reg8) (v : Word) : (s.setPair x y v).cpu.flags = s.cpu.flags := by
  simp [State.setPair]
@[simp] theorem setPair_cpu_sp (x y : Reg8) (v : Word) : (s.setPair x y v).cpu.sp = s.cpu.sp := by
  simp [State.setPair]
@[simp] theorem setPair_cpu_pc (x y : Reg8) (v : Word) : (s.setPair x y v).cpu.pc = s.cpu.pc := by
  simp [State.setPair]
@[simp] theorem setPair_cpu_ime (x y : Reg8) (v : Word) : (s.setPair x y v).cpu.ime = s.cpu.ime := by
  simp [State.setPair]
@[simp] theorem setPair_cpu_eiDelay (x y : Reg8) (v : Word) : (s.setPair x y v).cpu.eiDelay = s.cpu.eiDelay := by
  simp [State.setPair]
@[simp] theorem setPair_cpu_mode (x y : Reg8) (v : Word) : (s.setPair x y v).cpu.mode = s.cpu.mode := by
  simp [State.setPair]
@[simp] theorem setPair_cpu_faultRecord (x y : Reg8) (v : Word) : (s.setPair x y v).cpu.faultRecord = s.cpu.faultRecord := by
  simp [State.setPair]
@[simp] theorem setPair_flags (x y : Reg8) (v : Word) : (s.setPair x y v).flags = s.flags := by simp [State.setPair]
@[simp] theorem setPair_sp (x y : Reg8) (v : Word) : (s.setPair x y v).sp = s.sp := by simp [State.setPair]
@[simp] theorem setPair_pc (x y : Reg8) (v : Word) : (s.setPair x y v).pc = s.pc := by simp [State.setPair]
@[simp] theorem setPair_read (x y : Reg8) (v addr : Word) : (s.setPair x y v).read addr = s.read addr := rfl

end Sys2Proof.Machine
end

