-- ==== Sys2Proof/Laws/Store.lean ====
section
/-!
SUPPORT. The laws of the sparse stores: what a read sees after a write, and that a write keeps the canonical form.
-/
namespace Sys2Proof.Machine

variable {w : Nat}

theorem store_read_cons_same (k : Nat) (v : BitVec w) (rest : List (Nat × BitVec w)) (h : Store.read rest k = 0#w) :
    Store.read (Store.cons k v rest) k = v := by
  unfold Store.cons
  split
  · simp_all
  · simp [Store.read]

theorem store_read_cons_other (k : Nat) (v : BitVec w) (rest : List (Nat × BitVec w)) {j : Nat} (h : j ≠ k) :
    Store.read (Store.cons k v rest) j = Store.read rest j := by
  unfold Store.cons
  split
  · rfl
  · simp [Store.read, Ne.symm h]

/-- A write leaves every other key alone, whatever the store. -/
theorem store_read_write_other (m : List (Nat × BitVec w)) (k : Nat) (v : BitVec w) {j : Nat} (h : j ≠ k) :
    Store.read (Store.write m k v) j = Store.read m j := by
  induction m with
  | nil => exact store_read_cons_other k v [] h
  | cons entry rest ih =>
    obtain ⟨k', x⟩ := entry
    simp only [Store.write]
    split
    · simp only [Store.read, ih]
    · split
      · rename_i _ hk
        rw [store_read_cons_other k v rest h]
        simp only [Store.read]
        rw [if_neg (by omega)]
      · exact store_read_cons_other k v _ h

/-! ### The canonical form -/

theorem store_wfFrom_mono (m : List (Nat × BitVec w)) {low low' : Nat} (h : low' ≤ low)
    (hm : Store.wfFrom low m = true) : Store.wfFrom low' m = true := by
  cases m with
  | nil => rfl
  | cons entry rest =>
    simp only [Store.wfFrom, Bool.and_eq_true, decide_eq_true_eq] at hm ⊢
    exact ⟨⟨by omega, hm.1.2⟩, hm.2⟩

/-- Below the least key nothing is listed. -/
theorem store_read_below (m : List (Nat × BitVec w)) {low k : Nat} (hk : k < low) (hm : Store.wfFrom low m = true) :
    Store.read m k = 0#w := by
  induction m generalizing low with
  | nil => rfl
  | cons entry rest ih =>
    simp only [Store.wfFrom, Bool.and_eq_true, decide_eq_true_eq] at hm
    simp only [Store.read]
    rw [if_neg (by omega)]
    exact ih (low := entry.1 + 1) (by omega) hm.2

/-- R58: a byte reads as the value last written to it. -/
theorem store_read_write_same (m : List (Nat × BitVec w)) (k : Nat) (v : BitVec w) {low : Nat}
    (hm : Store.wfFrom low m = true) : Store.read (Store.write m k v) k = v := by
  induction m generalizing low with
  | nil => exact store_read_cons_same k v [] rfl
  | cons entry rest ih =>
    obtain ⟨k', x⟩ := entry
    simp only [Store.wfFrom, Bool.and_eq_true, decide_eq_true_eq] at hm
    simp only [Store.write]
    split
    · rename_i hlt
      simp only [Store.read]
      rw [if_neg (by omega)]
      exact ih hm.2
    · split
      · exact store_read_cons_same k v rest (store_read_below rest (by omega) hm.2)
      · apply store_read_cons_same
        simp only [Store.read]
        rw [if_neg (by omega)]
        exact store_read_below rest (low := k' + 1) (by omega) hm.2

theorem store_cons_wfFrom (k : Nat) (v : BitVec w) (rest : List (Nat × BitVec w)) {low : Nat} (hk : low ≤ k)
    (hr : Store.wfFrom (k + 1) rest = true) : Store.wfFrom low (Store.cons k v rest) = true := by
  unfold Store.cons
  split
  · exact store_wfFrom_mono rest (by omega) hr
  · simp_all [Store.wfFrom]

theorem store_write_wfFrom (m : List (Nat × BitVec w)) (k : Nat) (v : BitVec w) {low : Nat} (hk : low ≤ k)
    (hm : Store.wfFrom low m = true) : Store.wfFrom low (Store.write m k v) = true := by
  induction m generalizing low with
  | nil => exact store_cons_wfFrom k v [] hk rfl
  | cons entry rest ih =>
    obtain ⟨k', x⟩ := entry
    have hm' := hm
    simp only [Store.wfFrom, Bool.and_eq_true, decide_eq_true_eq] at hm
    simp only [Store.write]
    split
    · simp only [Store.wfFrom, Bool.and_eq_true, decide_eq_true_eq]
      exact ⟨hm.1, ih (by omega) hm.2⟩
    · split
      · rename_i _ hkk
        subst hkk
        exact store_cons_wfFrom k' v rest hk hm.2
      · apply store_cons_wfFrom k v _ hk
        simp only [Store.wfFrom, Bool.and_eq_true, decide_eq_true_eq]
        exact ⟨⟨by omega, hm.1.2⟩, hm.2⟩

theorem store_write_all (p : Nat → Bool) (m : List (Nat × BitVec w)) (k : Nat) (v : BitVec w) (hk : p k = true)
    (hm : m.all (fun e => p e.1) = true) : (Store.write m k v).all (fun e => p e.1) = true := by
  have cons_all : ∀ rest : List (Nat × BitVec w), rest.all (fun e => p e.1) = true →
      (Store.cons k v rest).all (fun e => p e.1) = true := by
    intro rest hr
    unfold Store.cons
    split
    · exact hr
    · simp only [List.all_cons, Bool.and_eq_true]
      exact ⟨hk, hr⟩
  induction m with
  | nil => exact cons_all [] rfl
  | cons entry rest ih =>
    simp only [List.all_cons, Bool.and_eq_true] at hm
    simp only [Store.write]
    split
    · simp only [List.all_cons, Bool.and_eq_true]
      exact ⟨hm.1, ih hm.2⟩
    · split
      · exact cons_all rest hm.2
      · exact cons_all _ (by simp only [List.all_cons, Bool.and_eq_true]; exact hm)

/-- A write inside the array keeps the canonical form. -/
theorem store_write_wf {size : Nat} (m : List (Nat × BitVec w)) (k : Nat) (v : BitVec w) (hk : k < size)
    (hm : Store.wf size m = true) : Store.wf size (Store.write m k v) = true := by
  simp only [Store.wf, Bool.and_eq_true] at hm ⊢
  exact ⟨store_write_wfFrom m k v (Nat.zero_le k) hm.1,
    store_write_all (fun e => decide (e < size)) m k v (by simpa using hk) hm.2⟩

/-- A byte of an array in canonical form reads as the value last written to it. -/
theorem store_read_write_wf {size : Nat} (m : List (Nat × BitVec w)) (k : Nat) (v : BitVec w)
    (hm : Store.wf size m = true) : Store.read (Store.write m k v) k = v := by
  simp only [Store.wf, Bool.and_eq_true] at hm
  exact store_read_write_same m k v hm.1

/-! ### Stores made of lists -/

theorem store_ofListFrom_wfFrom (values : List (BitVec w)) (start : Nat) :
    Store.wfFrom start (Store.ofListFrom start values) = true := by
  induction values generalizing start with
  | nil => rfl
  | cons v rest ih => exact store_cons_wfFrom start v _ (Nat.le_refl start) (ih (start + 1))

theorem store_ofListFrom_all (p : Nat → Bool) (values : List (BitVec w)) (start : Nat)
    (h : ∀ k, start ≤ k → k < start + values.length → p k = true) :
    (Store.ofListFrom start values).all (fun e => p e.1) = true := by
  induction values generalizing start with
  | nil => rfl
  | cons v rest ih =>
    have hr := ih (start + 1) (fun k h1 h2 => h k (by omega) (by simp only [List.length_cons]; omega))
    simp only [Store.ofListFrom, Store.cons]
    split
    · exact hr
    · simp only [List.all_cons, Bool.and_eq_true]
      exact ⟨h start (Nat.le_refl start) (by simp), hr⟩

theorem store_ofList_wf {size : Nat} (values : List (BitVec w)) (h : values.length ≤ size) :
    Store.wf size (Store.ofListFrom 0 values) = true := by
  simp only [Store.wf, Bool.and_eq_true]
  exact ⟨store_ofListFrom_wfFrom values 0,
    store_ofListFrom_all (fun e => decide (e < size)) values 0 (fun k _ hk => by simp; omega)⟩

theorem store_read_ofListFrom (values : List (BitVec w)) (start i : Nat) :
    Store.read (Store.ofListFrom start values) (start + i) = values.getD i 0#w := by
  induction values generalizing start i with
  | nil => simp [Store.ofListFrom, Store.read]
  | cons v rest ih =>
    have below := store_read_below (Store.ofListFrom (start + 1) rest) (k := start) (by omega)
      (store_ofListFrom_wfFrom rest (start + 1))
    cases i with
    | zero => simpa [Store.ofListFrom] using store_read_cons_same start v _ below
    | succ j =>
      have hj := ih (start + 1) j
      rw [show start + 1 + j = start + (j + 1) by omega] at hj
      simp only [Store.ofListFrom]
      rw [store_read_cons_other start v _ (by omega), hj]
      simp

/-- The store of a list reads as the list. -/
theorem store_read_ofList (values : List (BitVec w)) (i : Nat) :
    Store.read (Store.ofListFrom 0 values) i = values.getD i 0#w := by
  simpa using store_read_ofListFrom values 0 i

end Sys2Proof.Machine
end

