-- ==== Sys2Proof/Laws/Bus.lean ====
section
/-!
SUPPORT. Once for all, what a bus write can do (R151, R165): the parts of the state it leaves alone, the readings it can
change, the byte it stores, and that it keeps the invariant.
-/
namespace Sys2Proof.Machine

variable (s : State)

/-! ### The OAM copy -/

/-- A property of the state that every byte of the copy keeps holds after the copy. -/
theorem dmaFold_keeps (P : State → Prop) (v : Byte) (bytes : List Nat) (t : State) (h0 : P t)
    (hstep : ∀ u i, i ∈ bytes → P u → P (State.dmaByte v u i)) : P (bytes.foldl (State.dmaByte v) t) := by
  induction bytes generalizing t with
  | nil => exact h0
  | cons i rest ih =>
    exact ih _ (hstep t i (by simp) h0) (fun u j hj hu => hstep u j (by simp [hj]) hu)

/-- R170: the copy writes OAM and nothing else. -/
theorem dmaFold_eq (v : Byte) (bytes : List Nat) (t : State) :
    ∃ oam, bytes.foldl (State.dmaByte v) t = { t with oam := oam } := by
  induction bytes generalizing t with
  | nil => exact ⟨t.oam, rfl⟩
  | cons i rest ih =>
    obtain ⟨oam, h⟩ := ih (State.dmaByte v t i)
    exact ⟨oam, by rw [List.foldl_cons, h]; rfl⟩

theorem writeDma_eq (v : Byte) : ∃ oam, s.writeDma v = { s with dma := v, oam := oam } := by
  obtain ⟨oam, h⟩ := dmaFold_eq v (List.range Config.oamBytes) { s with dma := v }
  exact ⟨oam, h⟩

/-! ### What a write can change -/

/-- What one bus write can do, in one of these forms (R151, R165, R211 to R217, R660). -/
inductive WriteEffect (s : State) : State → Prop where
  | ignored : WriteEffect s s
  | mbc1 (r r' : Mbc1) (h : s.cart.mapper = .mbc1 r) :
      WriteEffect s { s with cart := { s.cart with mapper := .mbc1 r' } }
  | mbc3 (r r' : Mbc3) (n : Nat) (h : s.cart.mapper = .mbc3 r) :
      WriteEffect s
        { s with cart := { s.cart with mapper := .mbc3 r' }, host := { s.host with rtcSamples := n } }
  | sram (index : Nat) (v : Byte) (h : index < s.cart.ramSize) :
      WriteEffect s { s with cart := { s.cart with sram := Store.write s.cart.sram index v } }
  | rtc (writes : List RtcWrite) : WriteEffect s { s with host := { s.host with rtcWrites := writes } }
  | vram (off : Nat) (v : Byte) (h : off < Config.vramBytes) : WriteEffect s { s with vram := Store.write s.vram off v }
  | wram (off : Nat) (v : Byte) (h : off < Config.wramBytes) : WriteEffect s { s with wram := Store.write s.wram off v }
  | oam (off : Nat) (v : Byte) (h : off < Config.oamBytes) : WriteEffect s { s with oam := Store.write s.oam off v }
  | hram (off : Nat) (v : Byte) (h : off < Config.hramBytes) : WriteEffect s { s with hram := Store.write s.hram off v }
  | intEnable (v : BitVec 5) : WriteEffect s { s with intEnable := v }
  | intFlag (v : BitVec 5) : WriteEffect s { s with intFlag := v }
  | joypad (j : Joypad) (h : j.buttons = s.joypad.buttons) : WriteEffect s { s with joypad := j }
  | serial (r : Serial) : WriteEffect s { s with serial := r }
  | timer (t : Timer) (h : s.timer.reloadDelay ≤ Config.timaReloadDelay → t.reloadDelay ≤ Config.timaReloadDelay) :
      WriteEffect s { s with timer := t }
  | ppu (p : Ppu) (h : s.ppu.Legal → p.Legal) (hf : p.framebuffer = s.ppu.framebuffer) : WriteEffect s { s with ppu := p }
  | dma (v : Byte) : WriteEffect s (s.writeDma v)

theorem onFallingEdge_reload (old : Bool) (t : Timer) (h : t.reloadDelay ≤ Config.timaReloadDelay) :
    (Timer.onFallingEdge old t).reloadDelay ≤ Config.timaReloadDelay := by
  unfold Timer.onFallingEdge Timer.incTima
  split
  · split
    · exact Nat.le_refl _
    · exact h
  · exact h

/-- R602: the PPU after a write of LCDC, by the LCD enable before and after it. -/
theorem writeLcdc_cases (p : Ppu) (v : Byte) :
    p.writeLcdc v =
      match p.lcdOn, v.getLsbD 7 with
      | true, false =>
        { p with lcdc := v, ly := 0x00#8, dot := 0, mode := .hblank, statLine := false, lcdOffDots := 0 }
      | false, true =>
        { p with lcdc := v, ly := 0x00#8, dot := 0, mode := .oamScan, windowLine := 0x00#8, lcdOffDots := 0 }
      | true, true => { p with lcdc := v }
      | false, false => { p with lcdc := v } := by
  unfold Ppu.writeLcdc
  cases hp : p.lcdOn <;> cases hv : v.getLsbD 7 <;> rfl

theorem writeLcdc_framebuffer (p : Ppu) (v : Byte) : (p.writeLcdc v).framebuffer = p.framebuffer := by
  rw [writeLcdc_cases]
  split <;> rfl

theorem writeLcdc_legal (p : Ppu) (v : Byte) (h : p.Legal) : (p.writeLcdc v).Legal := by
  obtain ⟨hly, hdot, hoff, hon, hoffst⟩ := h
  rw [writeLcdc_cases]
  split <;> rename_i hp hv
  · refine ⟨(by decide : 0 < 154), (by decide : 0 < 456), (by decide : 0 < 70224), fun h => ?_, fun _ => ⟨rfl, rfl, rfl, rfl⟩⟩
    exact absurd (hv.symm.trans h) (by decide)
  · refine ⟨(by decide : 0 < 154), (by decide : 0 < 456), (by decide : 0 < 70224), fun _ => ⟨rfl, rfl⟩, fun h => ?_⟩
    exact absurd (hv.symm.trans h) (by decide)
  · refine ⟨hly, hdot, hoff, fun _ => hon hp, fun h => ?_⟩
    exact absurd (hv.symm.trans h) (by decide)
  · refine ⟨hly, hdot, hoff, fun h => ?_, fun _ => hoffst hp⟩
    exact absurd (hv.symm.trans h) (by decide)

theorem ioWrite_effect (r : IoReg) (v : Byte) : WriteEffect s (s.ioWrite r v) := by
  have keep : s.ppu.Legal → ∀ p : Ppu, p.lcdc = s.ppu.lcdc → p.ly = s.ppu.ly → p.dot = s.ppu.dot →
      p.mode = s.ppu.mode → p.statLine = s.ppu.statLine → p.lcdOffDots = s.ppu.lcdOffDots → p.Legal := by
    intro h p h1 h2 h3 h4 h5 h6
    obtain ⟨a, b, c, d, e⟩ := h
    refine ⟨by rw [h2]; exact a, by rw [h3]; exact b, by rw [h6]; exact c, ?_, ?_⟩
    · intro hv; rw [h2, h3, h4, h6]; exact d (by simpa [Ppu.lcdOn, h1] using hv)
    · intro hv; rw [h2, h3, h4, h5]; exact e (by simpa [Ppu.lcdOn, h1] using hv)
  cases r with
  | p1 => exact .joypad _ rfl
  | sb => exact .serial _
  | sc => exact .serial _
  | div => exact .timer _ (fun h => onFallingEdge_reload _ _ h)
  | tima => exact .timer _ (fun _ => Nat.zero_le _)
  | tma => exact .timer _ (fun h => h)
  | tac => exact .timer _ (fun h => onFallingEdge_reload _ _ h)
  | intFlag => exact .intFlag _
  | sound => exact .ignored
  | lcdc => exact .ppu _ (writeLcdc_legal _ v) (writeLcdc_framebuffer _ v)
  | stat => exact .ppu _ (fun h => keep h _ rfl rfl rfl rfl rfl rfl) rfl
  | scy => exact .ppu _ (fun h => keep h _ rfl rfl rfl rfl rfl rfl) rfl
  | scx => exact .ppu _ (fun h => keep h _ rfl rfl rfl rfl rfl rfl) rfl
  | ly => exact .ignored
  | lyc => exact .ppu _ (fun h => keep h _ rfl rfl rfl rfl rfl rfl) rfl
  | dma => exact .dma v
  | bgp => exact .ppu _ (fun h => keep h _ rfl rfl rfl rfl rfl rfl) rfl
  | obp0 => exact .ppu _ (fun h => keep h _ rfl rfl rfl rfl rfl rfl) rfl
  | obp1 => exact .ppu _ (fun h => keep h _ rfl rfl rfl rfl rfl rfl) rfl
  | wy => exact .ppu _ (fun h => keep h _ rfl rfl rfl rfl rfl rfl) rfl
  | wx => exact .ppu _ (fun h => keep h _ rfl rfl rfl rfl rfl rfl) rfl
  | unmapped => exact .ignored

/-- R206, R215, R217: an index of cartridge RAM is inside the array. -/
theorem ramWindow_sram {c : Cart} {a : Word} {index : Nat} (h : c.ramWindow a = .sram index) :
    index < c.ramSize := by
  have target : ∀ bank off, c.sramTarget bank off = .sram index → index < c.ramSize := by
    intro bank off ht
    unfold Cart.sramTarget at ht
    split at ht
    · exact absurd ht (by simp)
    · rename_i hz
      injection ht with ht
      rw [← ht]
      exact Nat.mod_lt _ (Nat.pos_of_ne_zero hz)
  unfold Cart.ramWindow at h
  split at h
  · exact absurd h (by simp)
  · split at h
    · exact target _ _ h
    · exact absurd h (by simp)
  · dsimp only at h
    split at h
    · exact absurd h (by simp)
    · split at h
      · exact target _ _ h
      · split at h <;> exact absurd h (by simp)

/-- R151: the offsets the decoder gives are inside their arrays. -/
theorem regionOf_bounds (a : Word) :
    match regionOf a with
    | .vram off => off < Config.vramBytes
    | .wram off => off < Config.wramBytes
    | .oam off => off < Config.oamBytes
    | .hram off => off < Config.hramBytes
    | _ => True := by
  unfold regionOf
  split_ifs <;> simp only [Config.vramBytes, Config.wramBytes, Config.oamBytes, Config.hramBytes] <;> omega

/-- R151: the addresses of the regions that hold arrays, with the offset of each. -/
theorem regionOf_spec (a : Word) :
    match regionOf a with
    | .cartRom x => x = a ∧ a.toNat < 0x8000
    | .vram off => off + 0x8000 = a.toNat ∧ a.toNat < 0xA000
    | .cartRam x => x = a ∧ 0xA000 ≤ a.toNat ∧ a.toNat < 0xC000
    | .wram off => (off + 0xC000 = a.toNat ∧ a.toNat < 0xE000) ∨ (off + 0xE000 = a.toNat ∧ a.toNat < 0xFE00)
    | .oam off => off + 0xFE00 = a.toNat ∧ a.toNat < 0xFEA0
    | .hram off => off + 0xFF80 = a.toNat ∧ a.toNat < 0xFFFF
    | _ => True := by
  unfold regionOf
  split_ifs <;> simp only [true_and] <;> omega

/-- Everything one bus write can do. -/
theorem write_effect (a : Word) (v : Byte) : WriteEffect s (s.write a v) := by
  have hb := regionOf_bounds a
  unfold State.write State.writeRegion
  split
  · unfold State.writeCartRom
    split
    · exact .ignored
    · rename_i r h; exact .mbc1 r _ h
    · rename_i r h; exact .mbc3 r _ _ h
  · rename_i off h; rw [h] at hb; exact .vram off v hb
  · rename_i x _
    unfold State.writeCartRam
    split
    · exact .ignored
    · rename_i index h; exact .sram index v (ramWindow_sram h)
    · exact .rtc _
  · rename_i off h; rw [h] at hb; exact .wram off v hb
  · rename_i off h; rw [h] at hb; exact .oam off v hb
  · exact .ignored
  · exact ioWrite_effect s _ v
  · rename_i off h; rw [h] at hb; exact .hram off v hb
  · exact .intEnable _

/-! ### What a write leaves alone -/

@[simp] theorem write_cpu (a : Word) (v : Byte) : (s.write a v).cpu = s.cpu := by
  have h := write_effect s a v
  generalize s.write a v = t at h
  cases h with
  | dma v => obtain ⟨oam, h⟩ := writeDma_eq s v; rw [h]
  | _ => rfl

@[simp] theorem write_cycles (a : Word) (v : Byte) : (s.write a v).host.cycles = s.host.cycles := by
  have h := write_effect s a v
  generalize s.write a v = t at h
  cases h with
  | dma v => obtain ⟨oam, h⟩ := writeDma_eq s v; rw [h]
  | _ => rfl

@[simp] theorem write_exit (a : Word) (v : Byte) : (s.write a v).host.exit = s.host.exit := by
  have h := write_effect s a v
  generalize s.write a v = t at h
  cases h with
  | dma v => obtain ⟨oam, h⟩ := writeDma_eq s v; rw [h]
  | _ => rfl

@[simp] theorem write_reg8 (a : Word) (v : Byte) (r : Reg8) : (s.write a v).reg8 r = s.reg8 r := by
  simp [State.reg8]

@[simp] theorem write_flags (a : Word) (v : Byte) : (s.write a v).flags = s.flags := by simp [State.flags]

@[simp] theorem write_sp (a : Word) (v : Byte) : (s.write a v).sp = s.sp := by simp [State.sp]

@[simp] theorem write_pc (a : Word) (v : Byte) : (s.write a v).pc = s.pc := by simp [State.pc]

@[simp] theorem write_buttons (a : Word) (v : Byte) : (s.write a v).joypad.buttons = s.joypad.buttons := by
  have h := write_effect s a v
  generalize s.write a v = t at h
  cases h with
  | dma v => obtain ⟨oam, h⟩ := writeDma_eq s v; rw [h]
  | joypad j h => exact h
  | _ => rfl

theorem sameConfig_refl : SameConfig s s := ⟨rfl, rfl, rfl, rfl, rfl⟩

theorem SameConfig.trans {s t u : State} (h : SameConfig s t) (h' : SameConfig t u) : SameConfig s u :=
  ⟨h'.1.trans h.1, h'.2.trans h.2, h'.3.trans h.3, h'.4.trans h.4, h'.5.trans h.5⟩

/-- R77, R152: a bus write changes neither the configuration nor the ROM. -/
theorem write_sameConfig (a : Word) (v : Byte) : SameConfig s (s.write a v) := by
  have h := write_effect s a v
  generalize s.write a v = t at h
  cases h with
  | dma v => obtain ⟨oam, h⟩ := writeDma_eq s v; rw [h]; exact ⟨rfl, rfl, rfl, rfl, rfl⟩
  | mbc1 r r' h => exact ⟨rfl, rfl, by simp [h, Mapper.kind], rfl, rfl⟩
  | mbc3 r r' n h => exact ⟨rfl, rfl, by simp [h, Mapper.kind], rfl, rfl⟩
  | _ => exact ⟨rfl, rfl, rfl, rfl, rfl⟩

/-! ### The canonical form and the invariant -/

theorem dma_canonical (v : Byte) (h : s.CanonicalMemory) : (s.writeDma v).CanonicalMemory := by
  unfold State.writeDma
  refine dmaFold_keeps State.CanonicalMemory v _ _ ⟨h.1, h.2, h.3, h.4, h.5, h.6, h.7⟩ ?_
  intro u i hi hu
  exact ⟨hu.1, hu.2, store_write_wf _ _ _ (by simpa using hi) hu.3, hu.4, hu.5, hu.6, hu.7⟩

/-- A bus write keeps every memory in canonical form. -/
theorem write_canonical (a : Word) (v : Byte) (hs : s.CanonicalMemory) : (s.write a v).CanonicalMemory := by
  have h := write_effect s a v
  generalize s.write a v = t at h
  obtain ⟨h1, h2, h3, h4, h5, h6, h7⟩ := hs
  cases h with
  | dma v => exact dma_canonical s v ⟨h1, h2, h3, h4, h5, h6, h7⟩
  | sram index v h => exact ⟨h1, h2, h3, h4, h5, store_write_wf _ _ _ h h6, h7⟩
  | vram off v h => exact ⟨store_write_wf _ _ _ h h1, h2, h3, h4, h5, h6, h7⟩
  | wram off v h => exact ⟨h1, store_write_wf _ _ _ h h2, h3, h4, h5, h6, h7⟩
  | oam off v h => exact ⟨h1, h2, store_write_wf _ _ _ h h3, h4, h5, h6, h7⟩
  | hram off v h => exact ⟨h1, h2, h3, store_write_wf _ _ _ h h4, h5, h6, h7⟩
  | ppu p h hf => exact ⟨h1, h2, h3, h4, h5, h6, by rw [← hf] at h7; exact h7⟩
  | _ => exact ⟨h1, h2, h3, h4, h5, h6, h7⟩

/-- A bus write keeps the invariant. -/
theorem write_inv (a : Word) (v : Byte) (hs : s.Inv) : (s.write a v).Inv := by
  have hm := write_canonical s a v hs.memory
  have h := write_effect s a v
  generalize s.write a v = t at h hm
  obtain ⟨-, ⟨hb, hr, ho⟩, ⟨hc1, hc2, hc3⟩, ht, hp⟩ := hs
  have hctl : ∀ t : State, t.cpu = s.cpu → t.illegalMode = s.illegalMode → t.LegalControl := by
    intro t h1 h2
    exact ⟨by rw [h1]; exact hc1, by simpa [State.faulted, h1] using hc2, by simpa [State.faulted, h1, h2] using hc3⟩
  cases h with
  | dma v =>
    obtain ⟨oam, h⟩ := writeDma_eq s v
    rw [h] at hm ⊢
    exact ⟨hm, ⟨hb, hr, ho⟩, hctl _ rfl rfl, ht, hp⟩
  | mbc1 r r' h => exact ⟨hm, ⟨hb, hr, fun h => nomatch h⟩, hctl _ rfl rfl, ht, hp⟩
  | mbc3 r r' n h => exact ⟨hm, ⟨hb, hr, fun h => nomatch h⟩, hctl _ rfl rfl, ht, hp⟩
  | timer t h => exact ⟨hm, ⟨hb, hr, ho⟩, hctl _ rfl rfl, h ht, hp⟩
  | ppu p h hf => exact ⟨hm, ⟨hb, hr, ho⟩, hctl _ rfl rfl, ht, h hp⟩
  | _ => exact ⟨hm, ⟨hb, hr, ho⟩, hctl _ rfl rfl, ht, hp⟩

end Sys2Proof.Machine
end

