-- ==== Sys2Proof/Laws/Reads.lean ====
section
/-!
SUPPORT. What a read sees after a bus write: every address the write does not reach reads as before, a byte of RAM reads
as the stored value; and the same for two writes in a row, which is what a 16-bit store and a push are (R160).
-/
namespace Sys2Proof.Machine

variable (s : State)

/-! ### I/O registers -/

theorem onFallingEdge_tma (old : Bool) (t : Timer) : (Timer.onFallingEdge old t).tma = t.tma := by
  unfold Timer.onFallingEdge Timer.incTima
  split
  · split <;> rfl
  · rfl

theorem onFallingEdge_divCounter (old : Bool) (t : Timer) : (Timer.onFallingEdge old t).divCounter = t.divCounter := by
  unfold Timer.onFallingEdge Timer.incTima
  split
  · split <;> rfl
  · rfl

theorem onFallingEdge_tac (old : Bool) (t : Timer) : (Timer.onFallingEdge old t).tac = t.tac := by
  unfold Timer.onFallingEdge Timer.incTima
  split
  · split <;> rfl
  · rfl

/-- R602: what a write of LCDC leaves of the PPU. -/
theorem writeLcdc_keeps (p : Ppu) (v : Byte) :
    (p.writeLcdc v).lcdc = v ∧ (p.writeLcdc v).statSelect = p.statSelect ∧ (p.writeLcdc v).scy = p.scy ∧
    (p.writeLcdc v).scx = p.scx ∧ (p.writeLcdc v).lyc = p.lyc ∧ (p.writeLcdc v).bgp = p.bgp ∧
    (p.writeLcdc v).obp0 = p.obp0 ∧ (p.writeLcdc v).obp1 = p.obp1 ∧ (p.writeLcdc v).wy = p.wy ∧
    (p.writeLcdc v).wx = p.wx := by
  rw [writeLcdc_cases]
  split <;> exact ⟨rfl, rfl, rfl, rfl, rfl, rfl, rfl, rfl, rfl, rfl⟩

/-- R660: a write of the timer's DIV or TAC leaves the reading of every register but its own and TIMA's. -/
theorem timer_write_ioRead (t : Timer) (q : IoReg) (h : t.tma = s.timer.tma)
    (hd : q = .div → t.divCounter = s.timer.divCounter) (ht : q = .tac → t.tac = s.timer.tac) (hq : q ≠ .tima) :
    State.ioRead { s with timer := t } q = s.ioRead q := by
  cases q <;> first | rfl | exact absurd rfl hq | exact h | skip
  · exact congrArg highByte (hd rfl)
  · exact congrArg (0b11111#5 ++ ·) (ht rfl)

theorem lcdc_write_ioRead (v : Byte) (q : IoReg) (h1 : q ≠ .lcdc) (h2 : q ≠ .stat) (h3 : q ≠ .ly) :
    State.ioRead { s with ppu := s.ppu.writeLcdc v } q = s.ioRead q := by
  obtain ⟨-, -, k3, k4, k5, k6, k7, k8, k9, k10⟩ := writeLcdc_keeps s.ppu v
  cases q <;> first | rfl | exact absurd rfl h1 | exact absurd rfl h2 | exact absurd rfl h3 | assumption

theorem dma_write_readRegion (v : Byte) (g : Region) (h : ioReaches .dma g = false) :
    (s.writeDma v).readRegion g = s.readRegion g := by
  obtain ⟨oam, hw⟩ := writeDma_eq s v
  rw [hw]
  cases g with
  | oam off => exact absurd h (by simp [ioReaches])
  | io q => cases q <;> first | rfl | exact absurd h (by simp [ioReaches])
  | _ => rfl

/-- R660: what an I/O write does not reach reads as before. -/
theorem ioWrite_readRegion (r : IoReg) (v : Byte) (g : Region) (h : ioReaches r g = false) :
    (s.ioWrite r v).readRegion g = s.readRegion g := by
  cases r with
  | div =>
    cases g with
    | io q =>
      refine timer_write_ioRead s _ q (onFallingEdge_tma _ _) (fun hq => ?_) (fun _ => onFallingEdge_tac _ _) ?_ <;>
        simp_all [ioReaches]
    | _ => rfl
  | tac =>
    cases g with
    | io q =>
      refine timer_write_ioRead s _ q (onFallingEdge_tma _ _) (fun _ => onFallingEdge_divCounter _ _) (fun hq => ?_) ?_ <;>
        simp_all [ioReaches]
    | _ => rfl
  | lcdc =>
    cases g with
    | io q => refine lcdc_write_ioRead s v q ?_ ?_ ?_ <;> simp_all [ioReaches]
    | _ => rfl
  | dma => exact dma_write_readRegion s v g h
  | lyc =>
    cases g with
    | io q => cases q <;> first | rfl | exact absurd h (by simp [ioReaches])
    | _ => rfl
  | _ =>
    cases g with
    | io q => cases q <;> first | rfl | exact absurd h (by simp [ioReaches])
    | _ => rfl

/-! ### The cartridge -/

/-- R210: 0x0000-0x3FFF always reads ROM bank 0. -/
theorem readRom_low (c : Cart) (m : Mapper) (a : Word) (h : a.toNat < 0x4000) :
    Cart.readRom { c with mapper := m } a = c.readRom a := by
  simp only [Cart.readRom, Cart.romWindow, if_pos h, Cart.romIndex]

theorem sram_write_readRam (c : Cart) (index : Nat) (v : Byte) (b : Word) (h : c.ramWindow b ≠ .sram index) :
    Cart.readRam { c with sram := Store.write c.sram index v } b = c.readRam b := by
  have hw : Cart.ramWindow { c with sram := Store.write c.sram index v } b = c.ramWindow b := rfl
  unfold Cart.readRam
  rw [hw]
  split
  · rfl
  · rename_i i hi
    exact store_read_write_other _ _ _ (fun e => h (by rw [hi, e]))
  · rfl

/-! ### Every write -/

/-- R165: a bus write leaves the reading of every address it does not reach. -/
theorem write_read_unreached (a b : Word) (v : Byte) (h : s.writeReaches a b = false) :
    (s.write a v).read b = s.read b := by
  unfold State.writeReaches at h
  unfold State.write State.read
  generalize regionOf b = g at h
  cases ha : regionOf a with
  | cartRom x =>
    rw [ha] at h
    simp only [State.writeRegion, State.writeCartRom]
    split
    · rfl
    · rename_i r hm
      rw [hm] at h
      cases g with
      | cartRom y =>
        simp only [decide_eq_false_iff_not, Nat.not_le] at h
        exact readRom_low s.cart _ y h
      | cartRam y => exact absurd h (by simp)
      | _ => rfl
    · rename_i r hm
      rw [hm] at h
      cases g with
      | cartRom y =>
        simp only [decide_eq_false_iff_not, Nat.not_le] at h
        exact readRom_low s.cart _ y h
      | cartRam y => exact absurd h (by simp)
      | _ => rfl
  | cartRam x =>
    rw [ha] at h
    dsimp only at h
    simp only [State.writeRegion, State.writeCartRam]
    split
    · rfl
    · rename_i index hw
      rw [hw] at h
      cases g with
      | cartRam y => exact sram_write_readRam s.cart index v y (by simpa using h)
      | _ => rfl
    · cases g with
      | io q => cases q <;> rfl
      | _ => rfl
  | vram off =>
    rw [ha] at h
    cases g with
    | vram off' => exact store_read_write_other _ _ _ (by simpa using h)
    | io q => cases q <;> rfl
    | _ => rfl
  | wram off =>
    rw [ha] at h
    cases g with
    | wram off' => exact store_read_write_other _ _ _ (by simpa using h)
    | io q => cases q <;> rfl
    | _ => rfl
  | oam off =>
    rw [ha] at h
    cases g with
    | oam off' => exact store_read_write_other _ _ _ (by simpa using h)
    | io q => cases q <;> rfl
    | _ => rfl
  | prohibited => rfl
  | io r =>
    rw [ha] at h
    exact ioWrite_readRegion s r v g h
  | hram off =>
    rw [ha] at h
    cases g with
    | hram off' => exact store_read_write_other _ _ _ (by simpa using h)
    | io q => cases q <;> rfl
    | _ => rfl
  | intEnable =>
    rw [ha] at h
    cases g with
    | intEnable => exact absurd h (by simp)
    | io q => cases q <;> rfl
    | _ => rfl

/-- R155: a byte of RAM reads as the value stored to it, through every address that reaches it. -/
theorem write_read_ram (a : Word) (v : Byte) (hs : s.CanonicalMemory) (ha : s.isRam a = true) :
    (s.write a v).read a = v := by
  unfold State.isRam at ha
  unfold State.write State.read
  cases hr : regionOf a with
  | vram off => exact store_read_write_wf _ _ _ hs.vram
  | wram off => exact store_read_write_wf _ _ _ hs.wram
  | oam off => exact store_read_write_wf _ _ _ hs.oam
  | hram off => exact store_read_write_wf _ _ _ hs.hram
  | cartRam x =>
    rw [hr] at ha
    cases hw : s.cart.ramWindow x with
    | sram index =>
      have e : s.writeRegion (.cartRam x) v =
          { s with cart := { s.cart with sram := Store.write s.cart.sram index v } } := by
        simp only [State.writeRegion, State.writeCartRam, hw]
      rw [e]
      have hw' : Cart.ramWindow { s.cart with sram := Store.write s.cart.sram index v } x = .sram index := hw
      simp only [State.readRegion, Cart.readRam, hw']
      exact store_read_write_wf _ _ _ hs.sram
    | closed => simp [hw] at ha
    | rtc i => simp [hw] at ha
  | cartRom x => simp [hr] at ha
  | prohibited => simp [hr] at ha
  | io r => simp [hr] at ha
  | intEnable => simp [hr] at ha

/-! ### Frames of a store -/

theorem sameOutside_refl : SameOutside s s := rfl

/-- A RAM byte stays RAM, mapped to the same place, when another RAM byte is written. -/
theorem isRam_write_ram (a b : Word) (v : Byte) (ha : s.isRam a = true) : (s.write a v).isRam b = s.isRam b := by
  have h : (s.write a v).cart.mapper = s.cart.mapper ∧ (s.write a v).cart.ramSize = s.cart.ramSize := by
    unfold State.isRam at ha
    unfold State.write
    cases hr : regionOf a with
    | cartRam x =>
      rw [hr] at ha
      simp only [State.writeRegion, State.writeCartRam]
      cases hw : s.cart.ramWindow x with
      | sram index => exact ⟨rfl, rfl⟩
      | closed => exact ⟨rfl, rfl⟩
      | rtc i => exact ⟨rfl, rfl⟩
    | cartRom x => simp [hr] at ha
    | io r => simp [hr] at ha
    | _ => exact ⟨rfl, rfl⟩
  unfold State.isRam Cart.ramWindow Cart.sramTarget Cart.sramIndex
  rw [h.1, h.2]

/-- The frame of one store. -/
theorem storeFrame_of_write (a : Word) (v : Byte) (t : State) (hc : SameControl s t)
    (ho : SameOutside (s.write a v) t) (hr : ∀ b, t.read b = (s.write a v).read b) : StoreFrame a v s t :=
  ⟨hc, ho, fun b hb => by rw [hr, write_read_unreached s a b v hb],
    fun hs ha => by rw [hr, write_read_ram s a v hs ha]⟩

/-- The frame of two stores in a row. -/
theorem storeTwoFrame_of_writes (a1 a2 : Word) (v1 v2 : Byte) (t : State)
    (ho : SameOutside ((s.write a1 v1).write a2 v2) t)
    (hr : ∀ b, t.read b = ((s.write a1 v1).write a2 v2).read b) : StoreTwoFrame a1 v1 a2 v2 s t := by
  refine ⟨ho, fun b h1 h2 => by rw [hr, write_read_unreached _ a2 b v2 h2, write_read_unreached s a1 b v1 h1], ?_⟩
  intro hs h1 h2 h21
  have hs1 := write_canonical s a1 v1 hs
  have h2' : (s.write a1 v1).isRam a2 = true := by rw [isRam_write_ram s a1 a2 v1 h1]; exact h2
  refine ⟨?_, by rw [hr, write_read_ram _ a2 v2 hs1 h2']⟩
  have h21' : (s.write a1 v1).writeReaches a2 a1 = s.writeReaches a2 a1 := by
    have hram := h2
    unfold State.isRam at hram
    unfold State.writeReaches
    cases hr2 : regionOf a2 with
    | cartRam x =>
      have h1w : (s.write a1 v1).cart.ramWindow = s.cart.ramWindow := by
        have h : (s.write a1 v1).cart.mapper = s.cart.mapper := by
          unfold State.isRam at h1
          unfold State.write
          cases hr1 : regionOf a1 with
          | cartRam x =>
            simp only [State.writeRegion, State.writeCartRam]
            split <;> rfl
          | cartRom x => simp [hr1] at h1
          | io r => simp [hr1] at h1
          | _ => rfl
        have hz := (write_sameConfig s a1 v1).ramSize
        funext y
        unfold Cart.ramWindow Cart.sramTarget Cart.sramIndex
        rw [h, hz]
      simp only [h1w]
    | cartRom x => simp [hr2] at hram
    | _ => rfl
  rw [hr, write_read_unreached _ a2 a1 v2 (by rw [h21']; exact h21), write_read_ram s a1 v1 hs h1]

end Sys2Proof.Machine
end

