-- ==== Sys2Proof/Laws/Push.lean ====
section
/-!
SUPPORT. The bus does not look at the CPU: a read or write is the same whatever the registers hold. So a 16-bit store
and a push (R11, R320, R322) are two bus writes on the state before them, and a pop is two reads.
-/
namespace Sys2Proof.Machine

variable (s : State)

/-- The state with another CPU. -/
theorem dmaFold_withCpu (v : Byte) (bytes : List Nat) (c : Cpu) (t : State) :
    bytes.foldl (State.dmaByte v) { t with cpu := c } =
      { bytes.foldl (State.dmaByte v) t with cpu := c } := by
  induction bytes generalizing t with
  | nil => rfl
  | cons i rest ih => exact ih (State.dmaByte v t i)

/-- R150: a bus write does not look at the CPU. -/
theorem write_withCpu (a : Word) (v : Byte) (c : Cpu) :
    State.write { s with cpu := c } a v = { s.write a v with cpu := c } := by
  unfold State.write State.writeRegion
  split
  · unfold State.writeCartRom
    dsimp only
    split <;> rfl
  · rfl
  · unfold State.writeCartRam
    dsimp only
    split <;> rfl
  · rfl
  · rfl
  · rfl
  · rename_i r _
    cases r with
    | dma => exact dmaFold_withCpu v _ c { s with dma := v }
    | _ => rfl
  · rfl
  · rfl

theorem write_setSp (a x : Word) (v : Byte) : (s.setSp x).write a v = (s.write a v).setSp x := by
  rw [State.setSp, write_withCpu, State.setSp, write_cpu]

theorem sub_one_sub_one (x : Word) : x - 1#16 - 1#16 = x - 2#16 := by bv_omega

/-- R11: a push is two bus writes, high byte first, with SP moved by 2. -/
theorem push16_eq (v : Word) :
    s.push16 v =
      ((s.write (s.sp - 1#16) (highByte v)).write (s.sp - 2#16) (lowByte v)).setSp (s.sp - 2#16) := by
  simp only [State.push16, setSp_sp, write_setSp]
  rw [sub_one_sub_one]
  rfl

@[simp] theorem push16_sp (v : Word) : (s.push16 v).sp = s.sp - 2#16 := by rw [push16_eq]; rfl

@[simp] theorem push16_pc (v : Word) : (s.push16 v).pc = s.pc := by rw [push16_eq]; simp

@[simp] theorem push16_flags (v : Word) : (s.push16 v).flags = s.flags := by rw [push16_eq]; simp

@[simp] theorem push16_reg8 (v : Word) (r : Reg8) : (s.push16 v).reg8 r = s.reg8 r := by rw [push16_eq]; simp

theorem push16_cpu (v : Word) : (s.push16 v).cpu = { s.cpu with sp := s.sp - 2#16 } := by
  rw [push16_eq, State.setSp, write_cpu, write_cpu]

/-- R11: a push leaves IME, the EI latch, the mode and the fault record. -/
theorem push16_sameControl (v : Word) : SameControl s (s.push16 v) := by
  refine ⟨?_, ?_, ?_, ?_⟩ <;> rw [push16_cpu]

/-- A push keeps the invariant. -/
theorem push16_inv (v : Word) (hs : s.Inv) : (s.push16 v).Inv := by
  have h := write_inv _ (s.sp - 2#16) (lowByte v) (write_inv s (s.sp - 1#16) (highByte v) hs)
  rw [push16_eq]
  exact ⟨⟨h.1.1, h.1.2, h.1.3, h.1.4, h.1.5, h.1.6, h.1.7⟩, h.2, ⟨h.3.1, h.3.2, h.3.3⟩, h.4, h.5⟩

theorem push16_canonical (v : Word) (hs : s.CanonicalMemory) : (s.push16 v).CanonicalMemory := by
  have h := write_canonical _ (s.sp - 2#16) (lowByte v) (write_canonical s (s.sp - 1#16) (highByte v) hs)
  rw [push16_eq]
  exact ⟨h.1, h.2, h.3, h.4, h.5, h.6, h.7⟩

/-- The frame of a push: two stores, high byte first. -/
theorem push16_frame (v : Word) :
    StoreTwoFrame (s.sp - 1#16) (highByte v) (s.sp - 2#16) (lowByte v) s (s.push16 v) := by
  rw [push16_eq]
  exact storeTwoFrame_of_writes s _ _ _ _ _ rfl (fun _ => rfl)

/-- The frame of a 16-bit store: two stores, low byte first. -/
theorem write16_frame (a v : Word) : StoreTwoFrame a (lowByte v) (a + 1#16) (highByte v) s (s.write16 a v) :=
  storeTwoFrame_of_writes s _ _ _ _ _ rfl (fun _ => rfl)

/-- A frame does not look at the registers of the state after, nor at the count it returns. -/
theorem StoreTwoFrame.withCpu {s t : State} {a1 a2 : Word} {v1 v2 : Byte} (h : StoreTwoFrame a1 v1 a2 v2 s t)
    (c : Cpu) (n : Nat) :
    StoreTwoFrame a1 v1 a2 v2 s { t with cpu := c, host := { t.host with cycles := n } } :=
  ⟨h.1, h.2, h.3⟩

/-- R11: `Pop16` reads the low byte at SP and the high byte at SP + 1. -/
theorem top16_eq : s.top16 = joinBytes (s.read (s.sp + 1#16)) (s.read s.sp) := rfl

end Sys2Proof.Machine
end

