-- ==== Sys2Proof/Laws/Families.lean ====
section
/-!
SUPPORT. For each family of the opcode map, the meaning every member of it has: the shared operation, on the member's
operands. Later proofs about a family cite these instead of splitting on its members again.
-/
namespace Sys2Proof.Machine

variable (s : State)

theorem exec_ldReg (dst src : Reg8) : exec (.ldReg dst src) s = loadReg dst src s := by
  cases dst <;> cases src <;> rfl

theorem exec_ldImm (dst : Reg8) (n : Byte) : exec (.ldImm dst n) s = loadImm dst n s := by cases dst <;> rfl

theorem exec_ldFromHL (dst : Reg8) : exec (.ldFromHL dst) s = loadFrom dst s.hl 8 s := by cases dst <;> rfl

theorem exec_ldToHL (r : Reg8) : exec (.ldToHL r) s = storeTo s.hl (s.reg8 r) 8 s := by cases r <;> rfl

theorem exec_alu (op : AluOp) (r : Reg8) : exec (.alu op r) s = aluOn op (s.reg8 r) 4 s := by
  cases op <;> cases r <;> rfl

theorem exec_aluHL (op : AluOp) : exec (.aluHL op) s = aluOn op (s.read s.hl) 8 s := by cases op <;> rfl

theorem exec_aluImm (op : AluOp) (n : Byte) : exec (.aluImm op n) s = aluOn op n 8 s := by cases op <;> rfl

theorem exec_incReg (r : Reg8) : exec (.incReg r) s = incReg r s := by cases r <;> rfl

theorem exec_decReg (r : Reg8) : exec (.decReg r) s = decReg r s := by cases r <;> rfl

theorem exec_shiftReg (k : ShiftOp) (r : Reg8) : exec (.shiftReg k r) s = shiftInReg k r s := by
  cases k <;> cases r <;> rfl

theorem exec_shiftHL (k : ShiftOp) : exec (.shiftHL k) s = shiftAtHl k s := by cases k <;> rfl

theorem exec_bitReg (b : Fin 8) (r : Reg8) : exec (.bitReg b r) s = bitOfReg b r s := by
  fin_cases b <;> cases r <;> rfl

theorem exec_bitHL (b : Fin 8) : exec (.bitHL b) s = bitAtHl b s := by fin_cases b <;> rfl

theorem exec_resReg (b : Fin 8) (r : Reg8) : exec (.resReg b r) s = resInReg b r s := by
  fin_cases b <;> cases r <;> rfl

theorem exec_resHL (b : Fin 8) : exec (.resHL b) s = resAtHl b s := by fin_cases b <;> rfl

theorem exec_setReg (b : Fin 8) (r : Reg8) : exec (.setReg b r) s = setInReg b r s := by
  fin_cases b <;> cases r <;> rfl

theorem exec_setHL (b : Fin 8) : exec (.setHL b) s = setAtHl b s := by fin_cases b <;> rfl

theorem exec_ld16 (rr : Reg16) (nn : Word) : exec (.ld16 rr nn) s = loadImm16 rr nn s := by cases rr <;> rfl

theorem exec_addHL (rr : Reg16) : exec (.addHL rr) s = addToHl rr s := by cases rr <;> rfl

theorem exec_inc16 (rr : Reg16) : exec (.inc16 rr) s = incReg16 rr s := by cases rr <;> rfl

theorem exec_dec16 (rr : Reg16) : exec (.dec16 rr) s = decReg16 rr s := by cases rr <;> rfl

theorem exec_pushReg (qq : PushReg) : exec (.pushReg qq) s = push qq s := by cases qq <;> rfl

theorem exec_popReg (qq : PopReg) : exec (.popReg qq) s = pop qq s := by cases qq <;> rfl

theorem exec_jpCond (cc : Cond) (nn : Word) : exec (.jpCond cc nn) s = jumpIf cc nn s := by cases cc <;> rfl

theorem exec_jrCond (cc : Cond) (e : Byte) : exec (.jrCond cc e) s = jumpRelIf cc e s := by cases cc <;> rfl

theorem exec_callCond (cc : Cond) (nn : Word) : exec (.callCond cc nn) s = callIf cc nn s := by cases cc <;> rfl

theorem exec_retCond (cc : Cond) : exec (.retCond cc) s = returnIf cc s := by cases cc <;> rfl

theorem exec_rst (t : Fin 8) : exec (.rst t) s = restart t s := by fin_cases t <;> rfl

/-- R255: `Cond(cc)` as the model computes it. -/
theorem holds_iff (f : Flags) (cc : Cond) : f.holds cc = true ↔ f.Meets cc := by
  cases cc <;> simp [Flags.holds, Flags.Meets]

end Sys2Proof.Machine
end

