-- ==== Sys2Proof/Laws/Frames.lean ====
section
/-!
SUPPORT. The frames, one lemma per update of a register: an update of the CPU or of the returned count changes nothing
outside the CPU, and each update leaves the part of the control state it does not name. With these a frame is proved by
following the meaning's updates, without unfolding a record.
-/
namespace Sys2Proof.Machine

variable {s t : State}

/-! ### Outside the CPU -/

theorem SameOutside.refl (s : State) : SameOutside s s := rfl

theorem SameOutside.setReg8 (h : SameOutside s t) (r : Reg8) (v : Byte) : SameOutside s (t.setReg8 r v) := h
theorem SameOutside.setFlags (h : SameOutside s t) (f : Flags) : SameOutside s (t.setFlags f) := h
theorem SameOutside.setPc (h : SameOutside s t) (v : Word) : SameOutside s (t.setPc v) := h
theorem SameOutside.setSp (h : SameOutside s t) (v : Word) : SameOutside s (t.setSp v) := h
theorem SameOutside.setIme (h : SameOutside s t) (v : Bool) : SameOutside s (t.setIme v) := h
theorem SameOutside.setEiDelay (h : SameOutside s t) (v : Nat) : SameOutside s (t.setEiDelay v) := h
theorem SameOutside.setMode (h : SameOutside s t) (v : CpuMode) : SameOutside s (t.setMode v) := h
theorem SameOutside.took (h : SameOutside s t) (n : Nat) : SameOutside s (t.took n) := h
theorem SameOutside.setPair (h : SameOutside s t) (x y : Reg8) (v : Word) : SameOutside s (t.setPair x y v) := h
theorem SameOutside.setHl (h : SameOutside s t) (v : Word) : SameOutside s (t.setHl v) := h

/-! ### The control state -/

theorem SameControl.refl (s : State) : SameControl s s := ⟨rfl, rfl, rfl, rfl⟩

theorem SameControl.setReg8 (h : SameControl s t) (r : Reg8) (v : Byte) : SameControl s (t.setReg8 r v) := by
  cases r <;> exact ⟨h.1, h.2, h.3, h.4⟩
theorem SameControl.setFlags (h : SameControl s t) (f : Flags) : SameControl s (t.setFlags f) := ⟨h.1, h.2, h.3, h.4⟩
theorem SameControl.setPc (h : SameControl s t) (v : Word) : SameControl s (t.setPc v) := ⟨h.1, h.2, h.3, h.4⟩
theorem SameControl.setSp (h : SameControl s t) (v : Word) : SameControl s (t.setSp v) := ⟨h.1, h.2, h.3, h.4⟩
theorem SameControl.took (h : SameControl s t) (n : Nat) : SameControl s (t.took n) := ⟨h.1, h.2, h.3, h.4⟩
theorem SameControl.setPair (h : SameControl s t) (x y : Reg8) (v : Word) : SameControl s (t.setPair x y v) := (h.setReg8 x _).setReg8 y _
theorem SameControl.setHl (h : SameControl s t) (v : Word) : SameControl s (t.setHl v) := h.setPair .h .l v

/-! ### Reads -/

/-- A state that is the same outside the CPU reads the same everywhere. -/
theorem SameOutside.reads (h : SameOutside s t) (a : Word) : t.read a = s.read a := by
  have e : State.read { t with cpu := s.cpu, host := { t.host with cycles := s.host.cycles } } a = t.read a := rfl
  unfold SameOutside at h
  rw [h] at e
  exact e.symm

/-- What stores nothing has a quiet frame. -/
theorem quietFrame_of (hc : SameControl s t) (ho : SameOutside s t) : QuietFrame s t := ⟨hc, ho, ho.reads⟩

/-- What stores one byte has the frame of that store. -/
theorem storeFrame_of (a : Word) (v : Byte) (hc : SameControl s t) (ho : SameOutside (s.write a v) t) :
    StoreFrame a v s t := storeFrame_of_write s a v t hc ho ho.reads

/-- The control state after a bus write. -/
theorem sameControl_write (s : State) (a : Word) (v : Byte) : SameControl s (s.write a v) := by
  refine ⟨?_, ?_, ?_, ?_⟩ <;> rw [write_cpu]

/-! ### Registers -/

theorem SameReg8.refl (s : State) (regs : List Reg8) : SameReg8 regs s s := fun _ _ => rfl

theorem SameReg8.setReg8 {regs : List Reg8} (h : SameReg8 regs s t) {r : Reg8} (hr : r ∈ regs) (v : Byte) :
    SameReg8 regs s (t.setReg8 r v) := by
  intro q hq
  have hne : q ≠ r := fun e => hq (by rw [e]; exact hr)
  rw [setReg8_reg8_other t v hne]
  exact h q hq

theorem SameReg8.setPair {regs : List Reg8} (h : SameReg8 regs s t) {x y : Reg8} (hx : x ∈ regs) (hy : y ∈ regs)
    (v : Word) : SameReg8 regs s (t.setPair x y v) := (h.setReg8 hx _).setReg8 hy _

theorem SameReg8.write {regs : List Reg8} (h : SameReg8 regs s t) (a : Word) (v : Byte) :
    SameReg8 regs s (t.write a v) := fun q hq => (write_reg8 t a v q).trans (h q hq)

theorem SameReg8.setFlags {regs : List Reg8} (h : SameReg8 regs s t) (f : Flags) : SameReg8 regs s (t.setFlags f) :=
  fun q hq => (setFlags_reg8 t f q).trans (h q hq)
theorem SameReg8.setPc {regs : List Reg8} (h : SameReg8 regs s t) (v : Word) : SameReg8 regs s (t.setPc v) :=
  fun q hq => (setPc_reg8 t v q).trans (h q hq)
theorem SameReg8.setSp {regs : List Reg8} (h : SameReg8 regs s t) (v : Word) : SameReg8 regs s (t.setSp v) :=
  fun q hq => (setSp_reg8 t v q).trans (h q hq)
theorem SameReg8.setIme {regs : List Reg8} (h : SameReg8 regs s t) (v : Bool) : SameReg8 regs s (t.setIme v) :=
  fun q hq => (setIme_reg8 t v q).trans (h q hq)
theorem SameReg8.setEiDelay {regs : List Reg8} (h : SameReg8 regs s t) (v : Nat) : SameReg8 regs s (t.setEiDelay v) :=
  fun q hq => (setEiDelay_reg8 t v q).trans (h q hq)
theorem SameReg8.setMode {regs : List Reg8} (h : SameReg8 regs s t) (v : CpuMode) : SameReg8 regs s (t.setMode v) :=
  fun q hq => (setMode_reg8 t v q).trans (h q hq)
theorem SameReg8.took {regs : List Reg8} (h : SameReg8 regs s t) (n : Nat) : SameReg8 regs s (t.took n) :=
  fun q hq => (took_reg8 t n q).trans (h q hq)

end Sys2Proof.Machine
end

