-- ==== Sys2Proof/Laws/Effects.lean ====
section
/-!
SUPPORT. Once for all, what an instruction can do: it always answers a next state; that state is, outside the CPU, the
state before it after at most two bus writes; the CPU's control state changes only in the ways listed; and it takes at
least 4 cycles (R727). Every statement about all instructions cites `exec_effect`.
-/
namespace Sys2Proof.Machine

/-- The states that at most two bus writes give. -/
inductive BusWrites (s : State) : State → Prop where
  | none : BusWrites s s
  | one (a : Word) (v : Byte) : BusWrites s (s.write a v)
  | two (a1 : Word) (v1 : Byte) (a2 : Word) (v2 : Byte) : BusWrites s ((s.write a1 v1).write a2 v2)

/-- What every instruction but ILLEGAL under `Lock` can do. -/
structure OrdinaryEffect (i : Instr) (s t : State) : Prop where
  outside : ∃ u, BusWrites s u ∧ SameOutside u t
  ime : t.cpu.ime = s.cpu.ime ∨ (i = .di ∧ t.cpu.ime = false) ∨ (i = .reti ∧ t.cpu.ime = true)
  eiDelay :
    t.cpu.eiDelay = s.cpu.eiDelay ∨ (i = .di ∧ t.cpu.eiDelay = 0) ∨
      (i = .ei ∧ s.cpu.eiDelay = 0 ∧ t.cpu.eiDelay = 2)
  mode :
    t.cpu.mode = s.cpu.mode ∨ (i = .halt ∧ t.cpu.mode = .halted) ∨ (∃ x, i = .stop x ∧ t.cpu.mode = .stopped)
  faultRecord : t.cpu.faultRecord = s.cpu.faultRecord
  cycles : 4 ≤ t.host.cycles

/-- What an instruction can do. -/
inductive ExecEffect (i : Instr) (s t : State) : Prop where
  | ordinary (h : OrdinaryEffect i s t)
  | illegal (op : Byte) (hi : i = .illegal op) (hm : s.illegalMode = .lock)
      (ht : t = (s.raiseIllegalOpcode (s.pc - 1#16) op).took 4)

/-- A result that is a next state, with what led to it. -/
def Effect (i : Instr) (s : State) (r : Result) : Prop := ∃ t, r = .next t ∧ ExecEffect i s t

variable (i : Instr) (s : State)

theorem effect_of {t u : State} (hc : SameControl s t) (hw : BusWrites s u) (ho : SameOutside u t)
    (hn : 4 ≤ t.host.cycles := by exact Nat.le_of_ble_eq_true rfl) : Effect i s (.next t) :=
  ⟨t, rfl, .ordinary ⟨⟨u, hw, ho⟩, .inl hc.1, .inl hc.2, .inl hc.3, hc.4, hn⟩⟩

/-- An instruction that writes registers and flags only. -/
theorem effect_quiet {t : State} (hc : SameControl s t) (ho : SameOutside s t)
    (hn : 4 ≤ t.host.cycles := by exact Nat.le_of_ble_eq_true rfl) : Effect i s (.next t) :=
  effect_of i s hc .none ho hn

theorem push16_writes (v : Word) : ∃ u, BusWrites s u ∧ SameOutside u (s.push16 v) :=
  ⟨_, .two _ _ _ _, (push16_frame s v).outside⟩

/-! ### The shared operations -/

theorem loadReg_effect (dst src : Reg8) : Effect i s (loadReg dst src s) :=
  effect_quiet i s (((SameControl.refl s).setReg8 _ _).took _) rfl

theorem loadImm_effect (dst : Reg8) (n : Byte) : Effect i s (loadImm dst n s) :=
  effect_quiet i s (((SameControl.refl s).setReg8 _ _).took _) rfl

theorem loadFrom_effect (dst : Reg8) (addr : Word) (n : Nat) (hn : 4 ≤ n := by exact Nat.le_of_ble_eq_true rfl) :
    Effect i s (loadFrom dst addr n s) :=
  effect_quiet i s (((SameControl.refl s).setReg8 _ _).took _) rfl hn

theorem storeTo_effect (addr : Word) (v : Byte) (n : Nat) (hn : 4 ≤ n := by exact Nat.le_of_ble_eq_true rfl) :
    Effect i s (storeTo addr v n s) :=
  effect_of i s ((sameControl_write s addr v).took n) (.one addr v) ((SameOutside.refl _).took n) hn

theorem loadAMoveHl_effect (d : Word) : Effect i s (loadAMoveHl d s) :=
  effect_quiet i s ((((SameControl.refl s).setReg8 _ _).setHl _).took _) rfl

theorem storeAMoveHl_effect (d : Word) : Effect i s (storeAMoveHl d s) :=
  effect_of i s (((sameControl_write s _ _).setHl _).took _) (.one s.hl (s.reg8 .a))
    (((SameOutside.refl _).setHl _).took _)

theorem setReg16_frame (rr : Reg16) (v : Word) : SameControl s (s.setReg16 rr v) ∧ SameOutside s (s.setReg16 rr v) := by
  cases rr <;> exact ⟨⟨rfl, rfl, rfl, rfl⟩, rfl⟩

theorem loadImm16_effect (rr : Reg16) (nn : Word) : Effect i s (loadImm16 rr nn s) :=
  effect_quiet i s ((setReg16_frame s rr nn).1.took _) ((setReg16_frame s rr nn).2.took _)

theorem push_effect (qq : PushReg) : Effect i s (push qq s) := by
  obtain ⟨u, hw, ho⟩ := push16_writes s (s.pushReg qq)
  exact effect_of i s ((push16_sameControl s _).took _) hw (ho.took _)

theorem pop_effect (qq : PopReg) : Effect i s (pop qq s) := by
  cases qq <;> exact effect_quiet i s ⟨rfl, rfl, rfl, rfl⟩ rfl

theorem aluOn_effect (op : AluOp) (v : Byte) (n : Nat) (hn : 4 ≤ n := by exact Nat.le_of_ble_eq_true rfl) :
    Effect i s (aluOn op v n s) := by
  unfold aluOn
  dsimp only
  split
  · exact effect_quiet i s ((((SameControl.refl s).setFlags _).setReg8 _ _).took _) rfl hn
  · exact effect_quiet i s (((SameControl.refl s).setFlags _).took _) rfl hn

theorem incReg_effect (r : Reg8) : Effect i s (incReg r s) :=
  effect_quiet i s ((((SameControl.refl s).setReg8 _ _).setFlags _).took _) rfl

theorem decReg_effect (r : Reg8) : Effect i s (decReg r s) :=
  effect_quiet i s ((((SameControl.refl s).setReg8 _ _).setFlags _).took _) rfl

theorem adjustA_effect (a : Byte) (f : Flags) : Effect i s (adjustA a f s) :=
  effect_quiet i s ((((SameControl.refl s).setReg8 _ _).setFlags _).took _) rfl

theorem addToHl_effect (rr : Reg16) : Effect i s (addToHl rr s) :=
  effect_quiet i s ((((SameControl.refl s).setHl _).setFlags _).took _) rfl

theorem incReg16_effect (rr : Reg16) : Effect i s (incReg16 rr s) :=
  effect_quiet i s ((setReg16_frame s rr _).1.took _) ((setReg16_frame s rr _).2.took _)

theorem decReg16_effect (rr : Reg16) : Effect i s (decReg16 rr s) :=
  effect_quiet i s ((setReg16_frame s rr _).1.took _) ((setReg16_frame s rr _).2.took _)

theorem rotateAcc_effect (k : ShiftOp) : Effect i s (rotateAcc k s) :=
  effect_quiet i s ((((SameControl.refl s).setReg8 _ _).setFlags _).took _) rfl

theorem shiftInReg_effect (k : ShiftOp) (r : Reg8) : Effect i s (shiftInReg k r s) :=
  effect_quiet i s ((((SameControl.refl s).setReg8 _ _).setFlags _).took _) rfl

/-- A read-modify-write of the byte at HL that also writes the flags. -/
theorem modifyHl_effect (v : Byte) (f : Flags) (n : Nat) (hn : 4 ≤ n := by exact Nat.le_of_ble_eq_true rfl) :
    Effect i s (.next (((s.write s.hl v).setFlags f).took n)) :=
  effect_of i s (((sameControl_write s _ _).setFlags _).took _) (.one s.hl v) (((SameOutside.refl _).setFlags _).took _)
    hn

theorem shiftAtHl_effect (k : ShiftOp) : Effect i s (shiftAtHl k s) := modifyHl_effect i s _ _ _

theorem setFlags_effect (f : Flags) (n : Nat) (hn : 4 ≤ n := by exact Nat.le_of_ble_eq_true rfl) :
    Effect i s (.next ((s.setFlags f).took n)) :=
  effect_quiet i s (((SameControl.refl s).setFlags _).took _) rfl hn

theorem bitOfReg_effect (b : Fin 8) (r : Reg8) : Effect i s (bitOfReg b r s) := setFlags_effect i s _ _

theorem bitAtHl_effect (b : Fin 8) : Effect i s (bitAtHl b s) := setFlags_effect i s _ _

theorem resInReg_effect (b : Fin 8) (r : Reg8) : Effect i s (resInReg b r s) :=
  effect_quiet i s (((SameControl.refl s).setReg8 _ _).took _) rfl

theorem setInReg_effect (b : Fin 8) (r : Reg8) : Effect i s (setInReg b r s) :=
  effect_quiet i s (((SameControl.refl s).setReg8 _ _).took _) rfl

theorem resAtHl_effect (b : Fin 8) : Effect i s (resAtHl b s) := storeTo_effect i s _ _ _

theorem setAtHl_effect (b : Fin 8) : Effect i s (setAtHl b s) := storeTo_effect i s _ _ _

theorem took_effect (n : Nat) (hn : 4 ≤ n := by exact Nat.le_of_ble_eq_true rfl) : Effect i s (.next (s.took n)) :=
  effect_quiet i s ((SameControl.refl s).took n) rfl hn

theorem setPc_effect (v : Word) (n : Nat) (hn : 4 ≤ n := by exact Nat.le_of_ble_eq_true rfl) :
    Effect i s (.next ((s.setPc v).took n)) :=
  effect_quiet i s (((SameControl.refl s).setPc v).took n) rfl hn

theorem call_effect (target : Word) (n : Nat) (hn : 4 ≤ n := by exact Nat.le_of_ble_eq_true rfl) :
    Effect i s (.next ((s.call target).took n)) := by
  obtain ⟨u, hw, ho⟩ := push16_writes s s.pc
  exact effect_of i s (((push16_sameControl s _).setPc _).took _) hw ((ho.setPc _).took _) hn

theorem popPc_effect (n : Nat) (hn : 4 ≤ n := by exact Nat.le_of_ble_eq_true rfl) :
    Effect i s (.next (s.popPc.took n)) :=
  effect_quiet i s ⟨rfl, rfl, rfl, rfl⟩ rfl hn

theorem jumpIf_effect (cc : Cond) (nn : Word) : Effect i s (jumpIf cc nn s) := by
  unfold jumpIf
  split
  · exact setPc_effect i s _ _
  · exact took_effect i s _

theorem jumpRelIf_effect (cc : Cond) (e : Byte) : Effect i s (jumpRelIf cc e s) := by
  unfold jumpRelIf
  split
  · exact setPc_effect i s _ _
  · exact took_effect i s _

theorem callIf_effect (cc : Cond) (nn : Word) : Effect i s (callIf cc nn s) := by
  unfold callIf
  split
  · exact call_effect i s _ _
  · exact took_effect i s _

theorem returnIf_effect (cc : Cond) : Effect i s (returnIf cc s) := by
  unfold returnIf
  split
  · exact popPc_effect i s _
  · exact took_effect i s _

theorem restart_effect (t : Fin 8) : Effect i s (restart t s) := call_effect i s _ _

theorem halt_effect : Effect .halt s (execHalt s) :=
  ⟨_, rfl, .ordinary ⟨⟨s, .none, rfl⟩, .inl rfl, .inl rfl, .inr (.inl ⟨rfl, rfl⟩), rfl, Nat.le_refl 4⟩⟩

theorem stop_effect (x : Byte) : Effect (.stop x) s (execStop x s) :=
  ⟨_, rfl, .ordinary ⟨⟨s, .none, rfl⟩, .inl rfl, .inl rfl, .inr (.inr ⟨x, rfl, rfl⟩), rfl, Nat.le_refl 4⟩⟩

theorem di_effect : Effect .di s (execDi s) :=
  ⟨_, rfl, .ordinary ⟨⟨s, .none, rfl⟩, .inr (.inl ⟨rfl, rfl⟩), .inr (.inl ⟨rfl, rfl⟩), .inl rfl, rfl, Nat.le_refl 4⟩⟩

theorem ei_effect : Effect .ei s (execEi s) := by
  unfold execEi
  split
  · rename_i h
    exact ⟨_, rfl, .ordinary ⟨⟨s, .none, rfl⟩, .inl rfl, .inr (.inr ⟨rfl, h, rfl⟩), .inl rfl, rfl, Nat.le_refl 4⟩⟩
  · exact took_effect _ s _

theorem reti_effect : Effect .reti s (execReti s) :=
  ⟨_, rfl, .ordinary ⟨⟨s, .none, rfl⟩, .inr (.inr ⟨rfl, rfl⟩), .inl rfl, .inl rfl, rfl, Nat.le_of_ble_eq_true rfl⟩⟩

theorem illegalOpcode_effect (op : Byte) : Effect (.illegal op) s (illegalOpcode op s) := by
  unfold illegalOpcode
  split
  · rename_i h; exact ⟨_, rfl, .illegal op rfl h rfl⟩
  · exact took_effect _ s _

/-! ### Every instruction -/

/-- What any instruction can do. -/
theorem exec_effect (i : Instr) (s : State) : Effect i s (exec i s) :=
  match i with
  | .nop => took_effect _ s _
  | .ld_BC_nn nn => loadImm16_effect _ s .bc nn
  | .ld_atBC_A => storeTo_effect _ s s.bc (s.reg8 .a) 8
  | .inc_BC => incReg16_effect _ s .bc
  | .inc_B => incReg_effect _ s .b
  | .dec_B => decReg_effect _ s .b
  | .ld_B_n n => loadImm_effect _ s .b n
  | .rlca => rotateAcc_effect _ s .rlc
  | .ld_atnn_SP nn => effect_of _ s ⟨by simp [State.write16], by simp [State.write16], by simp [State.write16], by simp [State.write16]⟩ (.two _ _ _ _) ((write16_frame s nn s.sp).outside.took _)
  | .add_HL_BC => addToHl_effect _ s .bc
  | .ld_A_atBC => loadFrom_effect _ s .a s.bc 8
  | .dec_BC => decReg16_effect _ s .bc
  | .inc_C => incReg_effect _ s .c
  | .dec_C => decReg_effect _ s .c
  | .ld_C_n n => loadImm_effect _ s .c n
  | .rrca => rotateAcc_effect _ s .rrc
  | .stop ignored => stop_effect s ignored
  | .ld_DE_nn nn => loadImm16_effect _ s .de nn
  | .ld_atDE_A => storeTo_effect _ s s.de (s.reg8 .a) 8
  | .inc_DE => incReg16_effect _ s .de
  | .inc_D => incReg_effect _ s .d
  | .dec_D => decReg_effect _ s .d
  | .ld_D_n n => loadImm_effect _ s .d n
  | .rla => rotateAcc_effect _ s .rl
  | .jr_e _ => setPc_effect _ s _ _
  | .add_HL_DE => addToHl_effect _ s .de
  | .ld_A_atDE => loadFrom_effect _ s .a s.de 8
  | .dec_DE => decReg16_effect _ s .de
  | .inc_E => incReg_effect _ s .e
  | .dec_E => decReg_effect _ s .e
  | .ld_E_n n => loadImm_effect _ s .e n
  | .rra => rotateAcc_effect _ s .rr
  | .jr_NZ_e e => jumpRelIf_effect _ s .nz e
  | .ld_HL_nn nn => loadImm16_effect _ s .hl nn
  | .ld_atHLinc_A => storeAMoveHl_effect _ s 1#16
  | .inc_HL => incReg16_effect _ s .hl
  | .inc_H => incReg_effect _ s .h
  | .dec_H => decReg_effect _ s .h
  | .ld_H_n n => loadImm_effect _ s .h n
  | .daa => adjustA_effect _ s (daaResult (s.reg8 .a) s.flags) (daaFlags (s.reg8 .a) s.flags)
  | .jr_Z_e e => jumpRelIf_effect _ s .z e
  | .add_HL_HL => addToHl_effect _ s .hl
  | .ld_A_atHLinc => loadAMoveHl_effect _ s 1#16
  | .dec_HL => decReg16_effect _ s .hl
  | .inc_L => incReg_effect _ s .l
  | .dec_L => decReg_effect _ s .l
  | .ld_L_n n => loadImm_effect _ s .l n
  | .cpl => adjustA_effect _ s (s.reg8 .a ^^^ 0xFF#8) (cplFlags s.flags)
  | .jr_NC_e e => jumpRelIf_effect _ s .nc e
  | .ld_SP_nn nn => loadImm16_effect _ s .sp nn
  | .ld_atHLdec_A => storeAMoveHl_effect _ s (-1#16)
  | .inc_SP => incReg16_effect _ s .sp
  | .inc_atHL => modifyHl_effect _ s _ _ _
  | .dec_atHL => modifyHl_effect _ s _ _ _
  | .ld_atHL_n n => storeTo_effect _ s s.hl n 12
  | .scf => setFlags_effect _ s _ _
  | .jr_C_e e => jumpRelIf_effect _ s .c e
  | .add_HL_SP => addToHl_effect _ s .sp
  | .ld_A_atHLdec => loadAMoveHl_effect _ s (-1#16)
  | .dec_SP => decReg16_effect _ s .sp
  | .inc_A => incReg_effect _ s .a
  | .dec_A => decReg_effect _ s .a
  | .ld_A_n n => loadImm_effect _ s .a n
  | .ccf => setFlags_effect _ s _ _
  | .ld_B_B => loadReg_effect _ s .b .b
  | .ld_B_C => loadReg_effect _ s .b .c
  | .ld_B_D => loadReg_effect _ s .b .d
  | .ld_B_E => loadReg_effect _ s .b .e
  | .ld_B_H => loadReg_effect _ s .b .h
  | .ld_B_L => loadReg_effect _ s .b .l
  | .ld_B_atHL => loadFrom_effect _ s .b s.hl 8
  | .ld_B_A => loadReg_effect _ s .b .a
  | .ld_C_B => loadReg_effect _ s .c .b
  | .ld_C_C => loadReg_effect _ s .c .c
  | .ld_C_D => loadReg_effect _ s .c .d
  | .ld_C_E => loadReg_effect _ s .c .e
  | .ld_C_H => loadReg_effect _ s .c .h
  | .ld_C_L => loadReg_effect _ s .c .l
  | .ld_C_atHL => loadFrom_effect _ s .c s.hl 8
  | .ld_C_A => loadReg_effect _ s .c .a
  | .ld_D_B => loadReg_effect _ s .d .b
  | .ld_D_C => loadReg_effect _ s .d .c
  | .ld_D_D => loadReg_effect _ s .d .d
  | .ld_D_E => loadReg_effect _ s .d .e
  | .ld_D_H => loadReg_effect _ s .d .h
  | .ld_D_L => loadReg_effect _ s .d .l
  | .ld_D_atHL => loadFrom_effect _ s .d s.hl 8
  | .ld_D_A => loadReg_effect _ s .d .a
  | .ld_E_B => loadReg_effect _ s .e .b
  | .ld_E_C => loadReg_effect _ s .e .c
  | .ld_E_D => loadReg_effect _ s .e .d
  | .ld_E_E => loadReg_effect _ s .e .e
  | .ld_E_H => loadReg_effect _ s .e .h
  | .ld_E_L => loadReg_effect _ s .e .l
  | .ld_E_atHL => loadFrom_effect _ s .e s.hl 8
  | .ld_E_A => loadReg_effect _ s .e .a
  | .ld_H_B => loadReg_effect _ s .h .b
  | .ld_H_C => loadReg_effect _ s .h .c
  | .ld_H_D => loadReg_effect _ s .h .d
  | .ld_H_E => loadReg_effect _ s .h .e
  | .ld_H_H => loadReg_effect _ s .h .h
  | .ld_H_L => loadReg_effect _ s .h .l
  | .ld_H_atHL => loadFrom_effect _ s .h s.hl 8
  | .ld_H_A => loadReg_effect _ s .h .a
  | .ld_L_B => loadReg_effect _ s .l .b
  | .ld_L_C => loadReg_effect _ s .l .c
  | .ld_L_D => loadReg_effect _ s .l .d
  | .ld_L_E => loadReg_effect _ s .l .e
  | .ld_L_H => loadReg_effect _ s .l .h
  | .ld_L_L => loadReg_effect _ s .l .l
  | .ld_L_atHL => loadFrom_effect _ s .l s.hl 8
  | .ld_L_A => loadReg_effect _ s .l .a
  | .ld_atHL_B => storeTo_effect _ s s.hl (s.reg8 .b) 8
  | .ld_atHL_C => storeTo_effect _ s s.hl (s.reg8 .c) 8
  | .ld_atHL_D => storeTo_effect _ s s.hl (s.reg8 .d) 8
  | .ld_atHL_E => storeTo_effect _ s s.hl (s.reg8 .e) 8
  | .ld_atHL_H => storeTo_effect _ s s.hl (s.reg8 .h) 8
  | .ld_atHL_L => storeTo_effect _ s s.hl (s.reg8 .l) 8
  | .halt => halt_effect s
  | .ld_atHL_A => storeTo_effect _ s s.hl (s.reg8 .a) 8
  | .ld_A_B => loadReg_effect _ s .a .b
  | .ld_A_C => loadReg_effect _ s .a .c
  | .ld_A_D => loadReg_effect _ s .a .d
  | .ld_A_E => loadReg_effect _ s .a .e
  | .ld_A_H => loadReg_effect _ s .a .h
  | .ld_A_L => loadReg_effect _ s .a .l
  | .ld_A_atHL => loadFrom_effect _ s .a s.hl 8
  | .ld_A_A => loadReg_effect _ s .a .a
  | .add_A_B => aluOn_effect _ s .add _ _
  | .add_A_C => aluOn_effect _ s .add _ _
  | .add_A_D => aluOn_effect _ s .add _ _
  | .add_A_E => aluOn_effect _ s .add _ _
  | .add_A_H => aluOn_effect _ s .add _ _
  | .add_A_L => aluOn_effect _ s .add _ _
  | .add_A_atHL => aluOn_effect _ s .add _ _
  | .add_A_A => aluOn_effect _ s .add _ _
  | .adc_A_B => aluOn_effect _ s .adc _ _
  | .adc_A_C => aluOn_effect _ s .adc _ _
  | .adc_A_D => aluOn_effect _ s .adc _ _
  | .adc_A_E => aluOn_effect _ s .adc _ _
  | .adc_A_H => aluOn_effect _ s .adc _ _
  | .adc_A_L => aluOn_effect _ s .adc _ _
  | .adc_A_atHL => aluOn_effect _ s .adc _ _
  | .adc_A_A => aluOn_effect _ s .adc _ _
  | .sub_B => aluOn_effect _ s .sub _ _
  | .sub_C => aluOn_effect _ s .sub _ _
  | .sub_D => aluOn_effect _ s .sub _ _
  | .sub_E => aluOn_effect _ s .sub _ _
  | .sub_H => aluOn_effect _ s .sub _ _
  | .sub_L => aluOn_effect _ s .sub _ _
  | .sub_atHL => aluOn_effect _ s .sub _ _
  | .sub_A => aluOn_effect _ s .sub _ _
  | .sbc_A_B => aluOn_effect _ s .sbc _ _
  | .sbc_A_C => aluOn_effect _ s .sbc _ _
  | .sbc_A_D => aluOn_effect _ s .sbc _ _
  | .sbc_A_E => aluOn_effect _ s .sbc _ _
  | .sbc_A_H => aluOn_effect _ s .sbc _ _
  | .sbc_A_L => aluOn_effect _ s .sbc _ _
  | .sbc_A_atHL => aluOn_effect _ s .sbc _ _
  | .sbc_A_A => aluOn_effect _ s .sbc _ _
  | .and_B => aluOn_effect _ s .and _ _
  | .and_C => aluOn_effect _ s .and _ _
  | .and_D => aluOn_effect _ s .and _ _
  | .and_E => aluOn_effect _ s .and _ _
  | .and_H => aluOn_effect _ s .and _ _
  | .and_L => aluOn_effect _ s .and _ _
  | .and_atHL => aluOn_effect _ s .and _ _
  | .and_A => aluOn_effect _ s .and _ _
  | .xor_B => aluOn_effect _ s .xor _ _
  | .xor_C => aluOn_effect _ s .xor _ _
  | .xor_D => aluOn_effect _ s .xor _ _
  | .xor_E => aluOn_effect _ s .xor _ _
  | .xor_H => aluOn_effect _ s .xor _ _
  | .xor_L => aluOn_effect _ s .xor _ _
  | .xor_atHL => aluOn_effect _ s .xor _ _
  | .xor_A => aluOn_effect _ s .xor _ _
  | .or_B => aluOn_effect _ s .or _ _
  | .or_C => aluOn_effect _ s .or _ _
  | .or_D => aluOn_effect _ s .or _ _
  | .or_E => aluOn_effect _ s .or _ _
  | .or_H => aluOn_effect _ s .or _ _
  | .or_L => aluOn_effect _ s .or _ _
  | .or_atHL => aluOn_effect _ s .or _ _
  | .or_A => aluOn_effect _ s .or _ _
  | .cp_B => aluOn_effect _ s .cp _ _
  | .cp_C => aluOn_effect _ s .cp _ _
  | .cp_D => aluOn_effect _ s .cp _ _
  | .cp_E => aluOn_effect _ s .cp _ _
  | .cp_H => aluOn_effect _ s .cp _ _
  | .cp_L => aluOn_effect _ s .cp _ _
  | .cp_atHL => aluOn_effect _ s .cp _ _
  | .cp_A => aluOn_effect _ s .cp _ _
  | .ret_NZ => returnIf_effect _ s .nz
  | .pop_BC => pop_effect _ s .bc
  | .jp_NZ_nn nn => jumpIf_effect _ s .nz nn
  | .jp_nn _ => setPc_effect _ s _ _
  | .call_NZ_nn nn => callIf_effect _ s .nz nn
  | .push_BC => push_effect _ s .bc
  | .add_A_n _ => aluOn_effect _ s .add _ _
  | .rst_00 => restart_effect _ s 0
  | .ret_Z => returnIf_effect _ s .z
  | .ret => popPc_effect _ s _
  | .jp_Z_nn nn => jumpIf_effect _ s .z nn
  | .call_Z_nn nn => callIf_effect _ s .z nn
  | .call_nn _ => call_effect _ s _ _
  | .adc_A_n _ => aluOn_effect _ s .adc _ _
  | .rst_08 => restart_effect _ s 1
  | .ret_NC => returnIf_effect _ s .nc
  | .pop_DE => pop_effect _ s .de
  | .jp_NC_nn nn => jumpIf_effect _ s .nc nn
  | .illegal op => illegalOpcode_effect s op
  | .call_NC_nn nn => callIf_effect _ s .nc nn
  | .push_DE => push_effect _ s .de
  | .sub_n _ => aluOn_effect _ s .sub _ _
  | .rst_10 => restart_effect _ s 2
  | .ret_C => returnIf_effect _ s .c
  | .reti => reti_effect s
  | .jp_C_nn nn => jumpIf_effect _ s .c nn
  | .call_C_nn nn => callIf_effect _ s .c nn
  | .sbc_A_n _ => aluOn_effect _ s .sbc _ _
  | .rst_18 => restart_effect _ s 3
  | .ldh_atn_A n => storeTo_effect _ s (highPage n) (s.reg8 .a) 12
  | .pop_HL => pop_effect _ s .hl
  | .ld_atC_A => storeTo_effect _ s (highPage (s.reg8 .c)) (s.reg8 .a) 8
  | .push_HL => push_effect _ s .hl
  | .and_n _ => aluOn_effect _ s .and _ _
  | .rst_20 => restart_effect _ s 4
  | .add_SP_e _ => effect_quiet _ s ⟨rfl, rfl, rfl, rfl⟩ rfl
  | .jp_HL => setPc_effect _ s _ _
  | .ld_atnn_A nn => storeTo_effect _ s nn (s.reg8 .a) 16
  | .xor_n _ => aluOn_effect _ s .xor _ _
  | .rst_28 => restart_effect _ s 5
  | .ldh_A_atn n => loadFrom_effect _ s .a (highPage n) 12
  | .pop_AF => effect_quiet _ s ⟨rfl, rfl, rfl, rfl⟩ rfl
  | .ld_A_atC => loadFrom_effect _ s .a (highPage (s.reg8 .c)) 8
  | .di => di_effect s
  | .push_AF => push_effect _ s .af
  | .or_n _ => aluOn_effect _ s .or _ _
  | .rst_30 => restart_effect _ s 6
  | .ld_HL_SPe _ => effect_quiet _ s ⟨rfl, rfl, rfl, rfl⟩ rfl
  | .ld_SP_HL => effect_quiet _ s ⟨rfl, rfl, rfl, rfl⟩ rfl
  | .ld_A_atnn nn => loadFrom_effect _ s .a nn 16
  | .ei => ei_effect s
  | .cp_n _ => aluOn_effect _ s .cp _ _
  | .rst_38 => restart_effect _ s 7
  | .rlc_B => shiftInReg_effect _ s .rlc .b
  | .rlc_C => shiftInReg_effect _ s .rlc .c
  | .rlc_D => shiftInReg_effect _ s .rlc .d
  | .rlc_E => shiftInReg_effect _ s .rlc .e
  | .rlc_H => shiftInReg_effect _ s .rlc .h
  | .rlc_L => shiftInReg_effect _ s .rlc .l
  | .rlc_atHL => shiftAtHl_effect _ s .rlc
  | .rlc_A => shiftInReg_effect _ s .rlc .a
  | .rrc_B => shiftInReg_effect _ s .rrc .b
  | .rrc_C => shiftInReg_effect _ s .rrc .c
  | .rrc_D => shiftInReg_effect _ s .rrc .d
  | .rrc_E => shiftInReg_effect _ s .rrc .e
  | .rrc_H => shiftInReg_effect _ s .rrc .h
  | .rrc_L => shiftInReg_effect _ s .rrc .l
  | .rrc_atHL => shiftAtHl_effect _ s .rrc
  | .rrc_A => shiftInReg_effect _ s .rrc .a
  | .rl_B => shiftInReg_effect _ s .rl .b
  | .rl_C => shiftInReg_effect _ s .rl .c
  | .rl_D => shiftInReg_effect _ s .rl .d
  | .rl_E => shiftInReg_effect _ s .rl .e
  | .rl_H => shiftInReg_effect _ s .rl .h
  | .rl_L => shiftInReg_effect _ s .rl .l
  | .rl_atHL => shiftAtHl_effect _ s .rl
  | .rl_A => shiftInReg_effect _ s .rl .a
  | .rr_B => shiftInReg_effect _ s .rr .b
  | .rr_C => shiftInReg_effect _ s .rr .c
  | .rr_D => shiftInReg_effect _ s .rr .d
  | .rr_E => shiftInReg_effect _ s .rr .e
  | .rr_H => shiftInReg_effect _ s .rr .h
  | .rr_L => shiftInReg_effect _ s .rr .l
  | .rr_atHL => shiftAtHl_effect _ s .rr
  | .rr_A => shiftInReg_effect _ s .rr .a
  | .sla_B => shiftInReg_effect _ s .sla .b
  | .sla_C => shiftInReg_effect _ s .sla .c
  | .sla_D => shiftInReg_effect _ s .sla .d
  | .sla_E => shiftInReg_effect _ s .sla .e
  | .sla_H => shiftInReg_effect _ s .sla .h
  | .sla_L => shiftInReg_effect _ s .sla .l
  | .sla_atHL => shiftAtHl_effect _ s .sla
  | .sla_A => shiftInReg_effect _ s .sla .a
  | .sra_B => shiftInReg_effect _ s .sra .b
  | .sra_C => shiftInReg_effect _ s .sra .c
  | .sra_D => shiftInReg_effect _ s .sra .d
  | .sra_E => shiftInReg_effect _ s .sra .e
  | .sra_H => shiftInReg_effect _ s .sra .h
  | .sra_L => shiftInReg_effect _ s .sra .l
  | .sra_atHL => shiftAtHl_effect _ s .sra
  | .sra_A => shiftInReg_effect _ s .sra .a
  | .swap_B => shiftInReg_effect _ s .swap .b
  | .swap_C => shiftInReg_effect _ s .swap .c
  | .swap_D => shiftInReg_effect _ s .swap .d
  | .swap_E => shiftInReg_effect _ s .swap .e
  | .swap_H => shiftInReg_effect _ s .swap .h
  | .swap_L => shiftInReg_effect _ s .swap .l
  | .swap_atHL => shiftAtHl_effect _ s .swap
  | .swap_A => shiftInReg_effect _ s .swap .a
  | .srl_B => shiftInReg_effect _ s .srl .b
  | .srl_C => shiftInReg_effect _ s .srl .c
  | .srl_D => shiftInReg_effect _ s .srl .d
  | .srl_E => shiftInReg_effect _ s .srl .e
  | .srl_H => shiftInReg_effect _ s .srl .h
  | .srl_L => shiftInReg_effect _ s .srl .l
  | .srl_atHL => shiftAtHl_effect _ s .srl
  | .srl_A => shiftInReg_effect _ s .srl .a
  | .bit_0_B => bitOfReg_effect _ s 0 .b
  | .bit_0_C => bitOfReg_effect _ s 0 .c
  | .bit_0_D => bitOfReg_effect _ s 0 .d
  | .bit_0_E => bitOfReg_effect _ s 0 .e
  | .bit_0_H => bitOfReg_effect _ s 0 .h
  | .bit_0_L => bitOfReg_effect _ s 0 .l
  | .bit_0_atHL => bitAtHl_effect _ s 0
  | .bit_0_A => bitOfReg_effect _ s 0 .a
  | .bit_1_B => bitOfReg_effect _ s 1 .b
  | .bit_1_C => bitOfReg_effect _ s 1 .c
  | .bit_1_D => bitOfReg_effect _ s 1 .d
  | .bit_1_E => bitOfReg_effect _ s 1 .e
  | .bit_1_H => bitOfReg_effect _ s 1 .h
  | .bit_1_L => bitOfReg_effect _ s 1 .l
  | .bit_1_atHL => bitAtHl_effect _ s 1
  | .bit_1_A => bitOfReg_effect _ s 1 .a
  | .bit_2_B => bitOfReg_effect _ s 2 .b
  | .bit_2_C => bitOfReg_effect _ s 2 .c
  | .bit_2_D => bitOfReg_effect _ s 2 .d
  | .bit_2_E => bitOfReg_effect _ s 2 .e
  | .bit_2_H => bitOfReg_effect _ s 2 .h
  | .bit_2_L => bitOfReg_effect _ s 2 .l
  | .bit_2_atHL => bitAtHl_effect _ s 2
  | .bit_2_A => bitOfReg_effect _ s 2 .a
  | .bit_3_B => bitOfReg_effect _ s 3 .b
  | .bit_3_C => bitOfReg_effect _ s 3 .c
  | .bit_3_D => bitOfReg_effect _ s 3 .d
  | .bit_3_E => bitOfReg_effect _ s 3 .e
  | .bit_3_H => bitOfReg_effect _ s 3 .h
  | .bit_3_L => bitOfReg_effect _ s 3 .l
  | .bit_3_atHL => bitAtHl_effect _ s 3
  | .bit_3_A => bitOfReg_effect _ s 3 .a
  | .bit_4_B => bitOfReg_effect _ s 4 .b
  | .bit_4_C => bitOfReg_effect _ s 4 .c
  | .bit_4_D => bitOfReg_effect _ s 4 .d
  | .bit_4_E => bitOfReg_effect _ s 4 .e
  | .bit_4_H => bitOfReg_effect _ s 4 .h
  | .bit_4_L => bitOfReg_effect _ s 4 .l
  | .bit_4_atHL => bitAtHl_effect _ s 4
  | .bit_4_A => bitOfReg_effect _ s 4 .a
  | .bit_5_B => bitOfReg_effect _ s 5 .b
  | .bit_5_C => bitOfReg_effect _ s 5 .c
  | .bit_5_D => bitOfReg_effect _ s 5 .d
  | .bit_5_E => bitOfReg_effect _ s 5 .e
  | .bit_5_H => bitOfReg_effect _ s 5 .h
  | .bit_5_L => bitOfReg_effect _ s 5 .l
  | .bit_5_atHL => bitAtHl_effect _ s 5
  | .bit_5_A => bitOfReg_effect _ s 5 .a
  | .bit_6_B => bitOfReg_effect _ s 6 .b
  | .bit_6_C => bitOfReg_effect _ s 6 .c
  | .bit_6_D => bitOfReg_effect _ s 6 .d
  | .bit_6_E => bitOfReg_effect _ s 6 .e
  | .bit_6_H => bitOfReg_effect _ s 6 .h
  | .bit_6_L => bitOfReg_effect _ s 6 .l
  | .bit_6_atHL => bitAtHl_effect _ s 6
  | .bit_6_A => bitOfReg_effect _ s 6 .a
  | .bit_7_B => bitOfReg_effect _ s 7 .b
  | .bit_7_C => bitOfReg_effect _ s 7 .c
  | .bit_7_D => bitOfReg_effect _ s 7 .d
  | .bit_7_E => bitOfReg_effect _ s 7 .e
  | .bit_7_H => bitOfReg_effect _ s 7 .h
  | .bit_7_L => bitOfReg_effect _ s 7 .l
  | .bit_7_atHL => bitAtHl_effect _ s 7
  | .bit_7_A => bitOfReg_effect _ s 7 .a
  | .res_0_B => resInReg_effect _ s 0 .b
  | .res_0_C => resInReg_effect _ s 0 .c
  | .res_0_D => resInReg_effect _ s 0 .d
  | .res_0_E => resInReg_effect _ s 0 .e
  | .res_0_H => resInReg_effect _ s 0 .h
  | .res_0_L => resInReg_effect _ s 0 .l
  | .res_0_atHL => resAtHl_effect _ s 0
  | .res_0_A => resInReg_effect _ s 0 .a
  | .res_1_B => resInReg_effect _ s 1 .b
  | .res_1_C => resInReg_effect _ s 1 .c
  | .res_1_D => resInReg_effect _ s 1 .d
  | .res_1_E => resInReg_effect _ s 1 .e
  | .res_1_H => resInReg_effect _ s 1 .h
  | .res_1_L => resInReg_effect _ s 1 .l
  | .res_1_atHL => resAtHl_effect _ s 1
  | .res_1_A => resInReg_effect _ s 1 .a
  | .res_2_B => resInReg_effect _ s 2 .b
  | .res_2_C => resInReg_effect _ s 2 .c
  | .res_2_D => resInReg_effect _ s 2 .d
  | .res_2_E => resInReg_effect _ s 2 .e
  | .res_2_H => resInReg_effect _ s 2 .h
  | .res_2_L => resInReg_effect _ s 2 .l
  | .res_2_atHL => resAtHl_effect _ s 2
  | .res_2_A => resInReg_effect _ s 2 .a
  | .res_3_B => resInReg_effect _ s 3 .b
  | .res_3_C => resInReg_effect _ s 3 .c
  | .res_3_D => resInReg_effect _ s 3 .d
  | .res_3_E => resInReg_effect _ s 3 .e
  | .res_3_H => resInReg_effect _ s 3 .h
  | .res_3_L => resInReg_effect _ s 3 .l
  | .res_3_atHL => resAtHl_effect _ s 3
  | .res_3_A => resInReg_effect _ s 3 .a
  | .res_4_B => resInReg_effect _ s 4 .b
  | .res_4_C => resInReg_effect _ s 4 .c
  | .res_4_D => resInReg_effect _ s 4 .d
  | .res_4_E => resInReg_effect _ s 4 .e
  | .res_4_H => resInReg_effect _ s 4 .h
  | .res_4_L => resInReg_effect _ s 4 .l
  | .res_4_atHL => resAtHl_effect _ s 4
  | .res_4_A => resInReg_effect _ s 4 .a
  | .res_5_B => resInReg_effect _ s 5 .b
  | .res_5_C => resInReg_effect _ s 5 .c
  | .res_5_D => resInReg_effect _ s 5 .d
  | .res_5_E => resInReg_effect _ s 5 .e
  | .res_5_H => resInReg_effect _ s 5 .h
  | .res_5_L => resInReg_effect _ s 5 .l
  | .res_5_atHL => resAtHl_effect _ s 5
  | .res_5_A => resInReg_effect _ s 5 .a
  | .res_6_B => resInReg_effect _ s 6 .b
  | .res_6_C => resInReg_effect _ s 6 .c
  | .res_6_D => resInReg_effect _ s 6 .d
  | .res_6_E => resInReg_effect _ s 6 .e
  | .res_6_H => resInReg_effect _ s 6 .h
  | .res_6_L => resInReg_effect _ s 6 .l
  | .res_6_atHL => resAtHl_effect _ s 6
  | .res_6_A => resInReg_effect _ s 6 .a
  | .res_7_B => resInReg_effect _ s 7 .b
  | .res_7_C => resInReg_effect _ s 7 .c
  | .res_7_D => resInReg_effect _ s 7 .d
  | .res_7_E => resInReg_effect _ s 7 .e
  | .res_7_H => resInReg_effect _ s 7 .h
  | .res_7_L => resInReg_effect _ s 7 .l
  | .res_7_atHL => resAtHl_effect _ s 7
  | .res_7_A => resInReg_effect _ s 7 .a
  | .set_0_B => setInReg_effect _ s 0 .b
  | .set_0_C => setInReg_effect _ s 0 .c
  | .set_0_D => setInReg_effect _ s 0 .d
  | .set_0_E => setInReg_effect _ s 0 .e
  | .set_0_H => setInReg_effect _ s 0 .h
  | .set_0_L => setInReg_effect _ s 0 .l
  | .set_0_atHL => setAtHl_effect _ s 0
  | .set_0_A => setInReg_effect _ s 0 .a
  | .set_1_B => setInReg_effect _ s 1 .b
  | .set_1_C => setInReg_effect _ s 1 .c
  | .set_1_D => setInReg_effect _ s 1 .d
  | .set_1_E => setInReg_effect _ s 1 .e
  | .set_1_H => setInReg_effect _ s 1 .h
  | .set_1_L => setInReg_effect _ s 1 .l
  | .set_1_atHL => setAtHl_effect _ s 1
  | .set_1_A => setInReg_effect _ s 1 .a
  | .set_2_B => setInReg_effect _ s 2 .b
  | .set_2_C => setInReg_effect _ s 2 .c
  | .set_2_D => setInReg_effect _ s 2 .d
  | .set_2_E => setInReg_effect _ s 2 .e
  | .set_2_H => setInReg_effect _ s 2 .h
  | .set_2_L => setInReg_effect _ s 2 .l
  | .set_2_atHL => setAtHl_effect _ s 2
  | .set_2_A => setInReg_effect _ s 2 .a
  | .set_3_B => setInReg_effect _ s 3 .b
  | .set_3_C => setInReg_effect _ s 3 .c
  | .set_3_D => setInReg_effect _ s 3 .d
  | .set_3_E => setInReg_effect _ s 3 .e
  | .set_3_H => setInReg_effect _ s 3 .h
  | .set_3_L => setInReg_effect _ s 3 .l
  | .set_3_atHL => setAtHl_effect _ s 3
  | .set_3_A => setInReg_effect _ s 3 .a
  | .set_4_B => setInReg_effect _ s 4 .b
  | .set_4_C => setInReg_effect _ s 4 .c
  | .set_4_D => setInReg_effect _ s 4 .d
  | .set_4_E => setInReg_effect _ s 4 .e
  | .set_4_H => setInReg_effect _ s 4 .h
  | .set_4_L => setInReg_effect _ s 4 .l
  | .set_4_atHL => setAtHl_effect _ s 4
  | .set_4_A => setInReg_effect _ s 4 .a
  | .set_5_B => setInReg_effect _ s 5 .b
  | .set_5_C => setInReg_effect _ s 5 .c
  | .set_5_D => setInReg_effect _ s 5 .d
  | .set_5_E => setInReg_effect _ s 5 .e
  | .set_5_H => setInReg_effect _ s 5 .h
  | .set_5_L => setInReg_effect _ s 5 .l
  | .set_5_atHL => setAtHl_effect _ s 5
  | .set_5_A => setInReg_effect _ s 5 .a
  | .set_6_B => setInReg_effect _ s 6 .b
  | .set_6_C => setInReg_effect _ s 6 .c
  | .set_6_D => setInReg_effect _ s 6 .d
  | .set_6_E => setInReg_effect _ s 6 .e
  | .set_6_H => setInReg_effect _ s 6 .h
  | .set_6_L => setInReg_effect _ s 6 .l
  | .set_6_atHL => setAtHl_effect _ s 6
  | .set_6_A => setInReg_effect _ s 6 .a
  | .set_7_B => setInReg_effect _ s 7 .b
  | .set_7_C => setInReg_effect _ s 7 .c
  | .set_7_D => setInReg_effect _ s 7 .d
  | .set_7_E => setInReg_effect _ s 7 .e
  | .set_7_H => setInReg_effect _ s 7 .h
  | .set_7_L => setInReg_effect _ s 7 .l
  | .set_7_atHL => setAtHl_effect _ s 7
  | .set_7_A => setInReg_effect _ s 7 .a

end Sys2Proof.Machine
end

