-- ==== Sys2Proof/Laws/Tick.lean ====
section
/-!
SUPPORT. Once for all, what a tick of the devices can do (R692): it writes the timer, the PPU and IF and nothing else,
and it keeps the invariant.
-/
namespace Sys2Proof.Machine

variable (s : State)

/-! ### What a tick writes -/

/-- R692: a tick writes the timer, the PPU and IF. -/
theorem tick_eq :
    s.tick = { s with timer := s.tick.timer, ppu := s.tick.ppu, intFlag := s.tick.intFlag } := rfl

/-- R691: so does any number of ticks. -/
theorem tickN_eq (n : Nat) :
    State.tickN n s =
      { s with
        timer := (State.tickN n s).timer, ppu := (State.tickN n s).ppu, intFlag := (State.tickN n s).intFlag } := by
  induction n generalizing s with
  | zero => rfl
  | succ n ih => rw [State.tickN, ih]; rfl

@[simp] theorem tickN_cpu (n : Nat) : (State.tickN n s).cpu = s.cpu := by rw [tickN_eq]

@[simp] theorem tickN_host (n : Nat) : (State.tickN n s).host = s.host := by rw [tickN_eq]

@[simp] theorem tickN_cart (n : Nat) : (State.tickN n s).cart = s.cart := by rw [tickN_eq]

@[simp] theorem tickN_illegalMode (n : Nat) : (State.tickN n s).illegalMode = s.illegalMode := by rw [tickN_eq]

theorem tickN_sameConfig (n : Nat) : SameConfig s (State.tickN n s) := by
  rw [tickN_eq]; exact ⟨rfl, rfl, rfl, rfl, rfl⟩

/-- Ticks in a row. -/
theorem tickN_add (m n : Nat) : State.tickN (m + n) s = State.tickN n (State.tickN m s) := by
  induction m generalizing s with
  | zero => rw [Nat.zero_add]; rfl
  | succ m ih => rw [Nat.succ_add]; exact ih s.tick

/-! ### The timer -/

/-- R64: a tick keeps the reload delay in range. -/
theorem timer_tick_reload (t : Timer) (h : t.reloadDelay ≤ Config.timaReloadDelay) :
    t.tick.reloadDelay ≤ Config.timaReloadDelay := by
  unfold Timer.tick Timer.countDiv
  apply onFallingEdge_reload
  show t.countReload.reloadDelay ≤ _
  unfold Timer.countReload
  split
  · exact Nat.zero_le _
  · exact (Nat.sub_le _ _).trans h

/-! ### The PPU -/

/-- R603: a dot advances LY and dot inside their ranges, and leaves the mode, the LCD and the framebuffer. -/
theorem advanceDot_spec (p : Ppu) (hl : p.ly.toNat < Config.linesPerFrame) (hd : p.dot < Config.dotsPerLine) :
    p.advanceDot.ly.toNat < Config.linesPerFrame ∧ p.advanceDot.dot < Config.dotsPerLine ∧
    p.advanceDot.ly.toNat * Config.dotsPerLine + p.advanceDot.dot =
      (p.ly.toNat * Config.dotsPerLine + p.dot + 1) % Config.dotsPerFrame ∧
    p.advanceDot.mode = p.mode ∧ p.advanceDot.lcdc = p.lcdc ∧ p.advanceDot.framebuffer = p.framebuffer ∧
    p.advanceDot.lcdOffDots = p.lcdOffDots := by
  unfold Config.linesPerFrame Config.dotsPerLine at *
  unfold Ppu.advanceDot Config.linesPerFrame Config.dotsPerLine Config.dotsPerFrame
  split
  · have hm : (p.ly.toNat + 1) % 154 < 256 := by omega
    refine ⟨?_, by simp, ?_, rfl, rfl, rfl, rfl⟩
    · simp only [BitVec.toNat_ofNat]; omega
    · simp only [BitVec.toNat_ofNat]; omega
  · exact ⟨hl, by dsimp only; omega, by dsimp only; omega, rfl, rfl, rfl, rfl⟩

/-- R610: drawing a visible line keeps the framebuffer in canonical form. -/
theorem drawLine_wf (p : Ppu) (vram : Memory) (sprites : List Sprite) (hl : p.ly.toNat < Config.visibleLines)
    (h : Store.wf (Config.screenWidth * Config.visibleLines) p.framebuffer = true) :
    Store.wf (Config.screenWidth * Config.visibleLines) (p.drawLine vram sprites) = true := by
  unfold Ppu.drawLine
  have hx : ∀ x ∈ List.range Config.screenWidth, x < Config.screenWidth := by simp
  revert hx h
  generalize List.range Config.screenWidth = xs
  generalize p.framebuffer = fb
  intro h hx
  induction xs generalizing fb with
  | nil => exact h
  | cons x xs ih =>
    refine ih _ (store_write_wf _ _ _ ?_ h) (fun y hy => hx y (by simp [hy]))
    have := hx x (by simp)
    unfold Config.screenWidth Config.visibleLines at *
    omega

/-- R601: below the visible lines the mode is 1; mode 0 is a visible line's. -/
theorem modeOf_hblank {ly dot : Nat} (h : modeOf ly dot = .hblank) : ly < Config.visibleLines := by
  unfold modeOf at h
  split at h
  · cases h
  · omega

/-- R603: entering a mode writes the mode, the framebuffer, the window's line counter and the frame flag. -/
theorem enterMode_spec (p : Ppu) (vram oam : Memory) (m : PpuMode) :
    (p.enterMode vram oam m).mode = m ∧ (p.enterMode vram oam m).ly = p.ly ∧
    (p.enterMode vram oam m).dot = p.dot ∧ (p.enterMode vram oam m).lcdc = p.lcdc ∧
    (p.enterMode vram oam m).lcdOffDots = p.lcdOffDots := by
  cases m <;> exact ⟨rfl, rfl, rfl, rfl, rfl⟩

/-- R603, R610: entering mode 0 draws the line. -/
theorem enterMode_hblank (p : Ppu) (vram oam : Memory) :
    (p.enterMode vram oam .hblank).framebuffer =
      Ppu.drawLine { p with mode := .hblank } vram (Ppu.scanOam { p with mode := .hblank } oam) := by
  simp only [Ppu.enterMode, Ppu.renderLine]

/-- R603, R610: entering a mode keeps the framebuffer in canonical form. -/
theorem enterMode_framebuffer (p : Ppu) (vram oam : Memory) (m : PpuMode)
    (hm : m = .hblank → p.ly.toNat < Config.visibleLines)
    (h : Store.wf (Config.screenWidth * Config.visibleLines) p.framebuffer = true) :
    Store.wf (Config.screenWidth * Config.visibleLines) (p.enterMode vram oam m).framebuffer = true := by
  cases m with
  | hblank =>
    rw [enterMode_hblank]
    exact drawLine_wf { p with mode := .hblank } vram _ (hm rfl) h
  | vblank => exact h
  | oamScan => exact h
  | drawing => exact h

/-- R603: what a mode change leaves alone. -/
theorem changeMode_spec (p : Ppu) (vram oam : Memory) :
    (p.changeMode vram oam).mode = modeOf p.ly.toNat p.dot ∧ (p.changeMode vram oam).ly = p.ly ∧
    (p.changeMode vram oam).dot = p.dot ∧ (p.changeMode vram oam).lcdc = p.lcdc ∧
    (p.changeMode vram oam).lcdOffDots = p.lcdOffDots ∧
    (Store.wf (Config.screenWidth * Config.visibleLines) p.framebuffer = true →
      Store.wf (Config.screenWidth * Config.visibleLines) (p.changeMode vram oam).framebuffer = true) := by
  unfold Ppu.changeMode
  dsimp only
  split
  · rename_i h; exact ⟨h.symm, rfl, rfl, rfl, rfl, id⟩
  · obtain ⟨h1, h2, h3, h4, h5⟩ := enterMode_spec p vram oam (modeOf p.ly.toNat p.dot)
    exact ⟨h1, h2, h3, h4, h5, enterMode_framebuffer p vram oam _ modeOf_hblank⟩

/-- A tick keeps the PPU's counters in range and its mode that of LY and dot, and the framebuffer in canonical form. -/
theorem ppu_tick_legal (p : Ppu) (vram oam : Memory) (h : p.Legal) :
    (p.tick vram oam).Legal ∧ (p.tick vram oam).lcdc = p.lcdc ∧
    (Store.wf (Config.screenWidth * Config.visibleLines) p.framebuffer = true →
      Store.wf (Config.screenWidth * Config.visibleLines) (p.tick vram oam).framebuffer = true) := by
  unfold Ppu.tick
  cases hon : p.lcdOn
  · obtain ⟨h1, h2, h3, h4, h5⟩ := h
    have h5 := h5 hon
    simp only [Bool.false_eq_true, if_false]
    unfold Ppu.lcdOffTick
    split
    · exact ⟨⟨h1, h2, by simp [Config.dotsPerFrame], fun e => absurd (hon.symm.trans e) (by simp), fun _ => h5⟩, rfl, id⟩
    · refine ⟨⟨h1, h2, ?_, fun e => absurd (hon.symm.trans e) (by simp), fun _ => h5⟩, rfl, id⟩
      dsimp only; omega
  · simp only [if_true]
    obtain ⟨a1, a2, -, -, a5, a6, a7⟩ := advanceDot_spec p h.ly h.dot
    obtain ⟨c1, c2, c3, c4, c5, c6⟩ := changeMode_spec p.advanceDot vram oam
    have hl : (p.beforeStat vram oam).lcdc = p.lcdc := c4.trans a5
    have h0 := (h.on hon).2
    refine ⟨⟨?_, ?_, ?_, fun _ => ⟨?_, ?_⟩, fun e => ?_⟩, hl, fun hw => c6 (by rw [a6]; exact hw)⟩
    · show (p.beforeStat vram oam).ly.toNat < _
      rw [Ppu.beforeStat, c2]; exact a1
    · show (p.beforeStat vram oam).dot < _
      rw [Ppu.beforeStat, c3]; exact a2
    · show (p.beforeStat vram oam).lcdOffDots < _
      rw [Ppu.beforeStat, c5, a7, h0]; decide
    · show (p.beforeStat vram oam).mode = modeOf (p.beforeStat vram oam).ly.toNat (p.beforeStat vram oam).dot
      rw [Ppu.beforeStat, c1, c2, c3]
    · show (p.beforeStat vram oam).lcdOffDots = 0
      rw [Ppu.beforeStat, c5, a7, h0]
    · have : (p.beforeStat vram oam).lcdOn = p.lcdOn := by rw [Ppu.lcdOn, hl]; rfl
      exact absurd ((hon.symm.trans this.symm).trans e) (by simp)

/-! ### The invariant -/

/-- A tick keeps the invariant. -/
theorem tick_inv (h : s.Inv) : s.tick.Inv := by
  obtain ⟨hm, hc, hl, ht, hp⟩ := h
  obtain ⟨p1, p2, p3⟩ := ppu_tick_legal s.ppu s.vram s.oam hp
  exact ⟨⟨hm.1, hm.2, hm.3, hm.4, hm.5, hm.6, p3 hm.7⟩, ⟨hc.1, hc.2, hc.3⟩, ⟨hl.1, hl.2, hl.3⟩,
    timer_tick_reload s.timer ht, p1⟩

theorem tickN_inv (n : Nat) (h : s.Inv) : (State.tickN n s).Inv := by
  induction n generalizing s with
  | zero => exact h
  | succ n ih => exact ih s.tick (tick_inv s h)

end Sys2Proof.Machine
end

