-- ==== Sys2Proof/Laws/Step.lean ====
section
/-!
SUPPORT. Once for all, what a step can do (R530): the EI latch, the one event it chooses, and the three forms of the
CPU's step, each followed by the devices' ticks.
-/
namespace Sys2Proof.Machine

variable (s : State)

/-! ### The EI latch -/

/-- R56, R530: the EI latch counts down, and its last count sets IME. -/
theorem matureEi_eq :
    s.matureEi =
      { s with
        cpu := { s.cpu with ime := s.cpu.ime || decide (s.cpu.eiDelay = 1), eiDelay := s.cpu.eiDelay - 1 } } := by
  unfold State.matureEi
  split
  · rename_i h
    have h1 : ¬ s.cpu.eiDelay = 1 := by omega
    have h2 : s.cpu.eiDelay - 1 = s.cpu.eiDelay := by omega
    rw [h2]
    simp [h1]
  · have h : (s.cpu.eiDelay - 1 = 0) = (s.cpu.eiDelay = 1) := by apply propext; omega
    simp only [State.setEiDelay, State.setIme, h]

@[simp] theorem matureEi_pending : s.matureEi.pending = s.pending := by rw [matureEi_eq]; rfl

@[simp] theorem matureEi_mode : s.matureEi.cpu.mode = s.cpu.mode := by rw [matureEi_eq]

@[simp] theorem matureEi_ime : s.matureEi.cpu.ime = (s.cpu.ime || decide (s.cpu.eiDelay = 1)) := by rw [matureEi_eq]

@[simp] theorem matureEi_eiDelay : s.matureEi.cpu.eiDelay = s.cpu.eiDelay - 1 := by rw [matureEi_eq]

@[simp] theorem matureEi_faultRecord : s.matureEi.cpu.faultRecord = s.cpu.faultRecord := by rw [matureEi_eq]

/-! ### The event -/

/-- R525: an interrupt with no pending bit below its own is the lowest pending one. -/
theorem lowestPending_eq (i : Interrupt) (p : BitVec 5) (h : p.getLsbD i.bit = true)
    (hl : ∀ j : Interrupt, j.bit < i.bit → p.getLsbD j.bit = false) : lowestPending p = some i := by
  have h0 := hl .vblank
  have h1 := hl .lcd
  have h2 := hl .timer
  have h3 := hl .serial
  cases i <;> simp_all [lowestPending, Interrupt.bit]

/-- R530: a CPU that is not idle fetches when it takes no interrupt. -/
theorem nextEvent_fetch (hm : s.cpu.mode = .running ∨ (s.cpu.mode = .halted ∧ s.pending ≠ 0#5))
    (hi : s.cpu.ime = true → s.pending = 0#5) : s.nextEvent = .fetch := by
  have h : s.serviceOrFetch = .fetch := by
    unfold State.serviceOrFetch
    split
    · rw [hi ‹_›]; rfl
    · rfl
  unfold State.nextEvent
  rcases hm with hm | ⟨hm, hp⟩
  · rw [hm]; exact h
  · rw [hm]; exact (if_neg hp).trans h

/-- R530: with IME set, a CPU that is not locked or stopped services the lowest pending interrupt. -/
theorem nextEvent_service (i : Interrupt) (hm : s.cpu.mode = .running ∨ s.cpu.mode = .halted)
    (hi : s.cpu.ime = true) (h : s.pending.getLsbD i.bit = true)
    (hl : ∀ j : Interrupt, j.bit < i.bit → s.pending.getLsbD j.bit = false) : s.nextEvent = .service i := by
  have h' : s.serviceOrFetch = .service i := by
    unfold State.serviceOrFetch
    rw [if_pos hi, lowestPending_eq i _ h hl]
  have hp : s.pending ≠ 0#5 := by intro e; rw [e] at h; simp at h
  unfold State.nextEvent
  rcases hm with hm | hm
  · rw [hm]; exact h'
  · rw [hm]; exact (if_neg hp).trans h'

/-! ### The step -/

/-- What one CPU step can do (R530). -/
inductive StepCases (s t : State) : Prop where
  | idle (exit : ExitReason) (ht : t = s.matureEi.returns Config.idleCycles exit)
  | service (i : Interrupt) (hm : s.cpu.mode = .running ∨ s.cpu.mode = .halted)
      (ht : t = (s.matureEi.wake.service i).returns Config.serviceCycles .interruptTaken)
  | run (u : State) (hm : s.cpu.mode = .running ∨ s.cpu.mode = .halted)
      (hu : ExecEffect s.matureEi.wake.instrAtPc s.matureEi.wake.pastInstr u) (ht : t = u.setExit)

/-- R521, R530: a CPU step always answers a next state, in one of these forms. -/
theorem cpuStep_cases : ∃ t, cpuStep s = .next t ∧ StepCases s t := by
  have hm : ∀ e, s.matureEi.nextEvent = e → (∃ x, e = .idle x) ∨ s.cpu.mode = .running ∨ s.cpu.mode = .halted := by
    intro e he
    unfold State.nextEvent at he
    rw [matureEi_mode] at he
    cases h : s.cpu.mode <;> simp [h] at he ⊢
    · exact ⟨_, he.symm⟩
    · exact ⟨_, he.symm⟩
  unfold cpuStep
  dsimp only
  cases he : s.matureEi.nextEvent with
  | idle x => exact ⟨_, rfl, .idle x rfl⟩
  | service i => exact ⟨_, rfl, .service i (by simpa using hm _ he) rfl⟩
  | fetch =>
    obtain ⟨u, hu, h⟩ := exec_effect s.matureEi.wake.instrAtPc s.matureEi.wake.pastInstr
    exact ⟨u.setExit, by simp only [State.runInstr, hu, mapNext], .run u (by simpa using hm _ he) h rfl⟩

/-- R691: a step is a CPU step and then the ticks of the count it returned. -/
theorem step_cases : ∃ t, step s = .next (State.tickN t.host.cycles t) ∧ StepCases s t := by
  obtain ⟨t, h, hc⟩ := cpuStep_cases s
  exact ⟨t, by unfold step advance; rw [h]; rfl, hc⟩

/-- R727, R530: every CPU step takes at least 4 cycles. -/
theorem StepCases.cycles {s t : State} (h : StepCases s t) : 4 ≤ t.host.cycles := by
  cases h with
  | idle exit ht => subst ht; exact Nat.le_refl 4
  | service i hm ht => subst ht; exact Nat.le_of_ble_eq_true rfl
  | run u hm hu ht =>
    subst ht
    cases hu with
    | ordinary h => exact h.cycles
    | illegal op hi hm ht => subst ht; exact Nat.le_refl 4

/-! ### The invariant -/

/-- A change of the CPU and of what the host sees keeps the invariant if the control state stays legal. -/
theorem inv_withCpu {t u : State} (h : t = { u with cpu := t.cpu, host := t.host }) (hu : u.Inv)
    (hc : t.LegalControl) : t.Inv := by
  refine ⟨?_, ?_, hc, ?_, ?_⟩
  · rw [h]; exact ⟨hu.1.1, hu.1.2, hu.1.3, hu.1.4, hu.1.5, hu.1.6, hu.1.7⟩
  · rw [h]; exact hu.2
  · rw [h]; exact hu.4
  · rw [h]; exact hu.5

end Sys2Proof.Machine
end

