-- ==== Sys2Proof/Machine/Harness.lean ====
section
/-!
DEFINITION. The test harness (R697): a test record with its entry state, trigger events, ack events, exit checks and stop
condition, the run that it asks for, and whether the record passes.
-/
namespace Sys2Proof.Machine

/-! ### The fields a record gives -/

/-- R697: the fields of a state that a record gives, `none` being a field it does not give; a byte of memory is given by
the address it is read at. -/
structure Given where
  a : Option Byte := none
  flags : Option Flags := none
  b : Option Byte := none
  c : Option Byte := none
  d : Option Byte := none
  e : Option Byte := none
  h : Option Byte := none
  l : Option Byte := none
  sp : Option Word := none
  pc : Option Word := none
  ime : Option Bool := none
  eiDelay : Option Nat := none
  mode : Option CpuMode := none
  faultRecord : Option (Option IllegalOpcode) := none
  vram : Option Memory := none
  wram : Option Memory := none
  oam : Option Memory := none
  hram : Option Memory := none
  mapper : Option Mapper := none
  sram : Option Memory := none
  joypad : Option Joypad := none
  serial : Option Serial := none
  timer : Option Timer := none
  intFlag : Option (BitVec 5) := none
  intEnable : Option (BitVec 5) := none
  ppu : Option Ppu := none
  dma : Option Byte := none
  /-- Memory and program bytes, by address. -/
  bytes : List (Word × Byte) := []
  deriving DecidableEq, Repr

/-- R697: the CPU with the fields a record gives; the others are as they were. -/
def Given.ontoCpu (g : Given) (c : Cpu) : Cpu :=
  { a := g.a.getD c.a, flags := g.flags.getD c.flags, b := g.b.getD c.b, c := g.c.getD c.c, d := g.d.getD c.d
    e := g.e.getD c.e, h := g.h.getD c.h, l := g.l.getD c.l, sp := g.sp.getD c.sp, pc := g.pc.getD c.pc
    ime := g.ime.getD c.ime, eiDelay := g.eiDelay.getD c.eiDelay, mode := g.mode.getD c.mode
    faultRecord := g.faultRecord.getD c.faultRecord }

/-- R697: a state with the fields a record gives, its single bytes apart; the others are as they were. -/
def Given.ontoFields (g : Given) (s : State) : State :=
  { s with
    cpu := g.ontoCpu s.cpu
    vram := g.vram.getD s.vram, wram := g.wram.getD s.wram, oam := g.oam.getD s.oam, hram := g.hram.getD s.hram
    cart := { s.cart with mapper := g.mapper.getD s.cart.mapper, sram := g.sram.getD s.cart.sram }
    joypad := g.joypad.getD s.joypad, serial := g.serial.getD s.serial, timer := g.timer.getD s.timer
    intFlag := g.intFlag.getD s.intFlag, intEnable := g.intEnable.getD s.intEnable
    ppu := g.ppu.getD s.ppu, dma := g.dma.getD s.dma }

/-- Put bytes into the memory arrays, ROM included, each where its address is read. -/
def State.placeBytes (s : State) (bytes : List (Word × Byte)) : State :=
  bytes.foldl (fun t byte => t.place byte.1 byte.2) s

/-- R697: a state with everything a record gives. -/
def Given.onto (g : Given) (s : State) : State := (g.ontoFields s).placeBytes g.bytes

/-- A field that a record gives has the value it gives. -/
def givenIs {α : Type} [DecidableEq α] (given : Option α) (actual : α) : Bool :=
  given.all (fun v => decide (v = actual))

/-- R697: the CPU has every field that a record gives. -/
def Given.holdsOfCpu (g : Given) (c : Cpu) : Bool :=
  givenIs g.a c.a && givenIs g.flags c.flags && givenIs g.b c.b && givenIs g.c c.c && givenIs g.d c.d
  && givenIs g.e c.e && givenIs g.h c.h && givenIs g.l c.l && givenIs g.sp c.sp && givenIs g.pc c.pc
  && givenIs g.ime c.ime && givenIs g.eiDelay c.eiDelay && givenIs g.mode c.mode
  && givenIs g.faultRecord c.faultRecord

/-- R697: a state has everything that a record gives (log entry 17). -/
def Given.holds (g : Given) (s : State) : Bool :=
  g.holdsOfCpu s.cpu
  && givenIs g.vram s.vram && givenIs g.wram s.wram && givenIs g.oam s.oam && givenIs g.hram s.hram
  && givenIs g.mapper s.cart.mapper && givenIs g.sram s.cart.sram
  && givenIs g.joypad s.joypad && givenIs g.serial s.serial && givenIs g.timer s.timer
  && givenIs g.intFlag s.intFlag && givenIs g.intEnable s.intEnable && givenIs g.ppu s.ppu && givenIs g.dma s.dma
  && g.bytes.all (fun byte => decide (s.read byte.1 = byte.2))

/-! ### Records -/

/-- R697: a trigger event. -/
structure Trigger where
  cycle : Nat
  set : BitVec 5
  deriving DecidableEq, Repr

/-- R697: an ack event. -/
structure Ack where
  cycle : Nat
  interrupt : Interrupt
  deriving DecidableEq, Repr

/-- R697: the stop condition, "exactly one instruction (or N cycles)". -/
inductive StopCondition where
  | oneStep
  | cycles (n : Nat)
  deriving DecidableEq, Repr

/-- R697: a test record. `cart`, `ram` and `illegalMode` are what its core is constructed around (R720). -/
structure TestRecord where
  cart : Cart := .blank
  ram : RamInit := .zero
  illegalMode : IllegalOpcodeMode := .lock
  entry : Given
  triggers : List Trigger := []
  acks : List Ack := []
  /-- The expected state. -/
  expected : Given
  /-- The expected total T. -/
  time : Nat
  /-- The expected exit reason of the last step. -/
  exit : ExitReason
  stop : StopCondition
  deriving DecidableEq, Repr

/-! ### The run -/

/-- R697: a running record: the core, the cumulative count T, the triggers that have not fired. -/
structure Harness where
  core : State
  time : Nat
  waiting : List Trigger
  deriving DecidableEq, Repr

/-- R697: the construction state with IF = 0x00, over which a record's entry fields are put. -/
def State.harnessEntry (s : State) : State := { s with intFlag := 0x00#5 }

/-- R697: the entry state: a field that the record does not give has its construction value, except IF, which is
0x00. -/
def TestRecord.entryState (r : TestRecord) : State :=
  r.entry.onto (State.postBoot r.cart r.ram r.illegalMode).harnessEntry

/-- R697: the start of a record: its entry state, T = 0, no trigger fired. -/
def TestRecord.start (r : TestRecord) : Harness := { core := r.entryState, time := 0, waiting := r.triggers }

/-- R697: `IF <- IF | trigger_set`. -/
def State.inject (s : State) (set : BitVec 5) : State := { s with intFlag := s.intFlag ||| set }

/-- R697: fire every waiting trigger whose cycle has come. -/
def Harness.fire (h : Harness) : Harness :=
  { h with
    core := (h.waiting.filter (fun t => decide (t.cycle ≤ h.time))).foldl (fun s t => s.inject t.set) h.core
    waiting := h.waiting.filter (fun t => decide (h.time < t.cycle)) }

/-- R697: one step of the harness: fire the triggers, step, tick, and count the cycles. -/
def Harness.step (h : Harness) : Option Harness :=
  match advance h.fire.core with
  | .next t => some { h.fire with core := t, time := h.time + t.host.cycles }
  | .fault _ => none
  | .refused _ => none

/-- R697: the harness after each step, steps being made until `T >= limit`, at most `fuel` of them. -/
def Harness.stepsTo (limit : Nat) : Nat → Harness → Option (List Harness)
  | 0, h => if limit ≤ h.time then some [] else none
  | fuel + 1, h =>
    if limit ≤ h.time then some []
    else h.step.bind (fun t => (Harness.stepsTo limit fuel t).map (fun later => t :: later))

/-- R697: the harness after the steps until `T >= limit`. -/
def Harness.runTo (limit fuel : Nat) (h : Harness) : Option Harness :=
  (h.stepsTo limit fuel).map (fun steps => steps.getLastD h)

/-- R697: the harness after each step of a record's run. N steps suffice for N cycles, since a step takes at least 4
(`testRecord_run`). -/
def TestRecord.run (r : TestRecord) : Option (List Harness) :=
  match r.stop with
  | .oneStep => r.start.step.map (fun h => [h])
  | .cycles n => r.start.stepsTo n n

/-! ### The checks -/

/-- R697: an ack after one step: it took an interrupt, T is the ack's cycle, the IF bit is 0 and PC is the vector. -/
def Harness.acks (h : Harness) (cycle : Nat) (i : Interrupt) : Bool :=
  decide (h.core.host.exit = .interruptTaken) && decide (h.time = cycle)
  && !h.core.intFlag.getLsbD i.bit && decide (h.core.pc = i.vector)

/-- R697: for every ack event there is a step of the run that answers it. -/
def TestRecord.acked (r : TestRecord) (steps : List Harness) : Bool :=
  r.acks.all (fun ack => steps.any (fun h => h.acks ack.cycle ack.interrupt))

/-- R697: the exit checks, made after the last step: the expected state, the total T and the exit reason. -/
def TestRecord.exits (r : TestRecord) (steps : List Harness) : Bool :=
  match steps.getLast? with
  | none => false
  | some h => r.expected.holds h.core && decide (h.time = r.time) && decide (h.core.host.exit = r.exit)

/-- R697: a record passes: its run meets every ack event and the exit checks. -/
def TestRecord.passes (r : TestRecord) : Bool :=
  match r.run with
  | none => false
  | some steps => r.acked steps && r.exits steps

end Sys2Proof.Machine
end

