-- ==== Sys2Proof/Laws/Harness.lean ====
section
/-!
SUPPORT. Once for all, what the test harness does (R697): the entry state of a record, what firing the triggers does to IF,
that a step always succeeds and adds its cycles to T, and that a record's run always ends.
-/
namespace Sys2Proof.Machine

variable (s : State)

/-! ### The entry state -/

/-- Placing a byte changes memory arrays only. -/
theorem place_eq (a : Word) (v : Byte) :
    s.place a v =
      { s with
        vram := (s.place a v).vram, wram := (s.place a v).wram, oam := (s.place a v).oam, hram := (s.place a v).hram
        cart := { s.cart with rom := (s.place a v).cart.rom, sram := (s.place a v).cart.sram } } := by
  unfold State.place
  split
  · rfl
  · rfl
  · split <;> rfl
  · rfl
  · rfl
  · rfl
  · rfl
  · rfl
  · rfl

/-- Placing bytes changes memory arrays only. -/
theorem placeBytes_eq (bytes : List (Word × Byte)) :
    ∃ vram wram oam hram rom sram,
      s.placeBytes bytes =
        { s with
          vram := vram, wram := wram, oam := oam, hram := hram
          cart := { s.cart with rom := rom, sram := sram } } := by
  induction bytes generalizing s with
  | nil => exact ⟨_, _, _, _, _, _, rfl⟩
  | cons byte rest ih =>
    obtain ⟨vram, wram, oam, hram, rom, sram, h⟩ := ih (s.place byte.1 byte.2)
    refine ⟨vram, wram, oam, hram, rom, sram, ?_⟩
    show (s.place byte.1 byte.2).placeBytes rest = _
    rw [h, place_eq]

/-- R697: a record that gives nothing leaves the state as it is. -/
theorem given_nothing : ({} : Given).onto s = s := rfl

variable (r : TestRecord)

/-- R697: the CPU at entry: what the record gives, else the construction value. -/
theorem entryState_cpu : r.entryState.cpu = r.entry.ontoCpu .postBoot := by
  obtain ⟨vram, wram, oam, hram, rom, sram, h⟩ :=
    placeBytes_eq (r.entry.ontoFields (State.postBoot r.cart r.ram r.illegalMode).harnessEntry) r.entry.bytes
  rw [TestRecord.entryState, Given.onto, h]
  rfl

/-- R697: IF at entry: what the record gives, else 0x00, not the construction value. -/
theorem entryState_intFlag : r.entryState.intFlag = r.entry.intFlag.getD 0x00#5 := by
  obtain ⟨vram, wram, oam, hram, rom, sram, h⟩ :=
    placeBytes_eq (r.entry.ontoFields (State.postBoot r.cart r.ram r.illegalMode).harnessEntry) r.entry.bytes
  rw [TestRecord.entryState, Given.onto, h]
  rfl

@[simp] theorem start_time : r.start.time = 0 := rfl

@[simp] theorem start_core : r.start.core = r.entryState := rfl

@[simp] theorem start_waiting : r.start.waiting = r.triggers := rfl

/-! ### Triggers -/

/-- R697: injecting sets in a row ORs them all into IF and changes nothing else. -/
theorem inject_all (triggers : List Trigger) :
    triggers.foldl (fun s t => s.inject t.set) s =
      { s with intFlag := triggers.foldl (fun f t => f ||| t.set) s.intFlag } := by
  induction triggers generalizing s with
  | nil => rfl
  | cons t rest ih => exact ih (s.inject t.set)

variable (h : Harness)

/-- R697: a trigger still waits after firing exactly when its cycle is still to come. -/
theorem fire_waiting (t : Trigger) : t ∈ h.fire.waiting ↔ t ∈ h.waiting ∧ h.time < t.cycle := by
  simp [Harness.fire]

/-! ### Steps -/

/-- R521, R697: a step of the harness always succeeds: the triggers fire, the core steps, and its cycles, at least 4, are
added to T. -/
theorem harness_step :
    ∃ t, h.step = some t ∧ advance h.fire.core = .next t.core ∧ t.time = h.time + t.core.host.cycles ∧
      4 ≤ t.core.host.cycles ∧ t.waiting = h.fire.waiting := by
  obtain ⟨u, hu, hc⟩ := step_cases h.fire.core
  have hu : advance h.fire.core = .next (State.tickN u.host.cycles u) := hu
  refine ⟨{ h.fire with core := State.tickN u.host.cycles u, time := h.time + (State.tickN u.host.cycles u).host.cycles },
    by simp only [Harness.step, hu], hu, rfl, ?_, rfl⟩
  rw [tickN_host]
  exact hc.cycles

/-- R697: with enough steps allowed the run to a limit ends. -/
theorem stepsTo_some (limit fuel : Nat) (hf : limit ≤ h.time + 4 * fuel) : ∃ steps, h.stepsTo limit fuel = some steps := by
  induction fuel generalizing h with
  | zero => exact ⟨[], if_pos hf⟩
  | succ fuel ih =>
    unfold Harness.stepsTo
    split
    · exact ⟨[], rfl⟩
    · obtain ⟨t, ht, -, htime, h4, -⟩ := harness_step h
      obtain ⟨later, hl⟩ := ih t (by omega)
      exact ⟨t :: later, by rw [ht]; simp only [Option.bind_some, hl, Option.map_some]⟩

/-- R697: steps are made until `T >= limit`, and no further: T is below the limit before each of them. -/
theorem stepsTo_stops (limit fuel : Nat) (steps : List Harness) (hs : h.stepsTo limit fuel = some steps) :
    limit ≤ (steps.getLastD h).time ∧ ∀ t ∈ (h :: steps).dropLast, t.time < limit := by
  induction fuel generalizing h steps with
  | zero =>
    unfold Harness.stepsTo at hs
    split at hs
    · cases hs; exact ⟨‹_›, by simp⟩
    · cases hs
  | succ fuel ih =>
    unfold Harness.stepsTo at hs
    split at hs
    · cases hs; exact ⟨‹_›, by simp⟩
    · rename_i hlt
      obtain ⟨t, ht, -⟩ := harness_step h
      rw [ht, Option.bind_some, Option.map_eq_some_iff] at hs
      obtain ⟨later, hl, rfl⟩ := hs
      obtain ⟨h1, h2⟩ := ih t later hl
      refine ⟨by rw [List.getLastD_cons]; exact h1, ?_⟩
      rw [List.dropLast_cons_of_ne_nil (List.cons_ne_nil t later)]
      intro u hu
      rcases List.mem_cons.mp hu with rfl | hu
      · omega
      · exact h2 u hu

/-- R697: every record's run ends. -/
theorem testRecord_run : ∃ steps, r.run = some steps := by
  unfold TestRecord.run
  split
  · obtain ⟨t, ht, -⟩ := harness_step r.start
    exact ⟨[t], by rw [ht]; rfl⟩
  · exact stepsTo_some r.start _ _ (by rw [start_time]; omega)

end Sys2Proof.Machine
end

