-- ==== Sys2Proof/Tests/Slice0.lean ====
section
/-!
SUPPORT. The model's own tests: the smoke test of well-formedness, the opcode map word by word, vectors of
spec/95_test_vectors.md, and for every obligation with hypotheses a concrete state that meets them. Every expected value
is the spec's.
-/
namespace Sys2Proof.Tests

open Sys2Proof.Machine

set_option Elab.async false

/-! ### Well-formedness -/

/-- R260: 0x00 is NOP's byte, no unassigned one. -/
theorem test_illformed_refused : (Instr.illegal 0x00#8).wellFormed = false := by decide

/-- R261: 0xCB is the prefix, no unassigned byte. -/
theorem test_illformed_prefix_refused : (Instr.illegal 0xCB#8).wellFormed = false := by decide

theorem test_wellformed_admitted :
    (Instr.illegal 0xD3#8).wellFormed = true ∧ (Instr.illegal 0xFD#8).wellFormed = true ∧
      (Instr.ld_A_n 0xFF#8).wellFormed = true := by decide

/-! ### Decoding
Every word of the opcode map (spec/opcode_table.json, the `match` column), sixteen to a theorem, with the bytes 0x34 and
0x12 after it; 0xCB is the prefix. After them, words written out bit by bit from the layouts of R258 and R259. -/

theorem test_decode_primary_row_0 :
    ∀ p ∈ ([(0x00#8, .nop), (0x01#8, .ld_BC_nn 0x1234#16), (0x02#8, .ld_atBC_A), (0x03#8, .inc_BC),
      (0x04#8, .inc_B), (0x05#8, .dec_B), (0x06#8, .ld_B_n 0x34#8), (0x07#8, .rlca),
      (0x08#8, .ld_atnn_SP 0x1234#16), (0x09#8, .add_HL_BC), (0x0A#8, .ld_A_atBC), (0x0B#8, .dec_BC),
      (0x0C#8, .inc_C), (0x0D#8, .dec_C), (0x0E#8, .ld_C_n 0x34#8), (0x0F#8, .rrca)] :
      List (Byte × Instr)), decodeBytes p.1 0x34#8 0x12#8 = p.2 := by decide

theorem test_decode_primary_row_1 :
    ∀ p ∈ ([(0x10#8, .stop 0x34#8), (0x11#8, .ld_DE_nn 0x1234#16), (0x12#8, .ld_atDE_A), (0x13#8, .inc_DE),
      (0x14#8, .inc_D), (0x15#8, .dec_D), (0x16#8, .ld_D_n 0x34#8), (0x17#8, .rla),
      (0x18#8, .jr_e 0x34#8), (0x19#8, .add_HL_DE), (0x1A#8, .ld_A_atDE), (0x1B#8, .dec_DE),
      (0x1C#8, .inc_E), (0x1D#8, .dec_E), (0x1E#8, .ld_E_n 0x34#8), (0x1F#8, .rra)] :
      List (Byte × Instr)), decodeBytes p.1 0x34#8 0x12#8 = p.2 := by decide

theorem test_decode_primary_row_2 :
    ∀ p ∈ ([(0x20#8, .jr_NZ_e 0x34#8), (0x21#8, .ld_HL_nn 0x1234#16), (0x22#8, .ld_atHLinc_A), (0x23#8, .inc_HL),
      (0x24#8, .inc_H), (0x25#8, .dec_H), (0x26#8, .ld_H_n 0x34#8), (0x27#8, .daa),
      (0x28#8, .jr_Z_e 0x34#8), (0x29#8, .add_HL_HL), (0x2A#8, .ld_A_atHLinc), (0x2B#8, .dec_HL),
      (0x2C#8, .inc_L), (0x2D#8, .dec_L), (0x2E#8, .ld_L_n 0x34#8), (0x2F#8, .cpl)] :
      List (Byte × Instr)), decodeBytes p.1 0x34#8 0x12#8 = p.2 := by decide

theorem test_decode_primary_row_3 :
    ∀ p ∈ ([(0x30#8, .jr_NC_e 0x34#8), (0x31#8, .ld_SP_nn 0x1234#16), (0x32#8, .ld_atHLdec_A), (0x33#8, .inc_SP),
      (0x34#8, .inc_atHL), (0x35#8, .dec_atHL), (0x36#8, .ld_atHL_n 0x34#8), (0x37#8, .scf),
      (0x38#8, .jr_C_e 0x34#8), (0x39#8, .add_HL_SP), (0x3A#8, .ld_A_atHLdec), (0x3B#8, .dec_SP),
      (0x3C#8, .inc_A), (0x3D#8, .dec_A), (0x3E#8, .ld_A_n 0x34#8), (0x3F#8, .ccf)] :
      List (Byte × Instr)), decodeBytes p.1 0x34#8 0x12#8 = p.2 := by decide

theorem test_decode_primary_row_4 :
    ∀ p ∈ ([(0x40#8, .ld_B_B), (0x41#8, .ld_B_C), (0x42#8, .ld_B_D), (0x43#8, .ld_B_E),
      (0x44#8, .ld_B_H), (0x45#8, .ld_B_L), (0x46#8, .ld_B_atHL), (0x47#8, .ld_B_A),
      (0x48#8, .ld_C_B), (0x49#8, .ld_C_C), (0x4A#8, .ld_C_D), (0x4B#8, .ld_C_E),
      (0x4C#8, .ld_C_H), (0x4D#8, .ld_C_L), (0x4E#8, .ld_C_atHL), (0x4F#8, .ld_C_A)] :
      List (Byte × Instr)), decodeBytes p.1 0x34#8 0x12#8 = p.2 := by decide

theorem test_decode_primary_row_5 :
    ∀ p ∈ ([(0x50#8, .ld_D_B), (0x51#8, .ld_D_C), (0x52#8, .ld_D_D), (0x53#8, .ld_D_E),
      (0x54#8, .ld_D_H), (0x55#8, .ld_D_L), (0x56#8, .ld_D_atHL), (0x57#8, .ld_D_A),
      (0x58#8, .ld_E_B), (0x59#8, .ld_E_C), (0x5A#8, .ld_E_D), (0x5B#8, .ld_E_E),
      (0x5C#8, .ld_E_H), (0x5D#8, .ld_E_L), (0x5E#8, .ld_E_atHL), (0x5F#8, .ld_E_A)] :
      List (Byte × Instr)), decodeBytes p.1 0x34#8 0x12#8 = p.2 := by decide

theorem test_decode_primary_row_6 :
    ∀ p ∈ ([(0x60#8, .ld_H_B), (0x61#8, .ld_H_C), (0x62#8, .ld_H_D), (0x63#8, .ld_H_E),
      (0x64#8, .ld_H_H), (0x65#8, .ld_H_L), (0x66#8, .ld_H_atHL), (0x67#8, .ld_H_A),
      (0x68#8, .ld_L_B), (0x69#8, .ld_L_C), (0x6A#8, .ld_L_D), (0x6B#8, .ld_L_E),
      (0x6C#8, .ld_L_H), (0x6D#8, .ld_L_L), (0x6E#8, .ld_L_atHL), (0x6F#8, .ld_L_A)] :
      List (Byte × Instr)), decodeBytes p.1 0x34#8 0x12#8 = p.2 := by decide

theorem test_decode_primary_row_7 :
    ∀ p ∈ ([(0x70#8, .ld_atHL_B), (0x71#8, .ld_atHL_C), (0x72#8, .ld_atHL_D), (0x73#8, .ld_atHL_E),
      (0x74#8, .ld_atHL_H), (0x75#8, .ld_atHL_L), (0x76#8, .halt), (0x77#8, .ld_atHL_A),
      (0x78#8, .ld_A_B), (0x79#8, .ld_A_C), (0x7A#8, .ld_A_D), (0x7B#8, .ld_A_E),
      (0x7C#8, .ld_A_H), (0x7D#8, .ld_A_L), (0x7E#8, .ld_A_atHL), (0x7F#8, .ld_A_A)] :
      List (Byte × Instr)), decodeBytes p.1 0x34#8 0x12#8 = p.2 := by decide

theorem test_decode_primary_row_8 :
    ∀ p ∈ ([(0x80#8, .add_A_B), (0x81#8, .add_A_C), (0x82#8, .add_A_D), (0x83#8, .add_A_E),
      (0x84#8, .add_A_H), (0x85#8, .add_A_L), (0x86#8, .add_A_atHL), (0x87#8, .add_A_A),
      (0x88#8, .adc_A_B), (0x89#8, .adc_A_C), (0x8A#8, .adc_A_D), (0x8B#8, .adc_A_E),
      (0x8C#8, .adc_A_H), (0x8D#8, .adc_A_L), (0x8E#8, .adc_A_atHL), (0x8F#8, .adc_A_A)] :
      List (Byte × Instr)), decodeBytes p.1 0x34#8 0x12#8 = p.2 := by decide

theorem test_decode_primary_row_9 :
    ∀ p ∈ ([(0x90#8, .sub_B), (0x91#8, .sub_C), (0x92#8, .sub_D), (0x93#8, .sub_E),
      (0x94#8, .sub_H), (0x95#8, .sub_L), (0x96#8, .sub_atHL), (0x97#8, .sub_A),
      (0x98#8, .sbc_A_B), (0x99#8, .sbc_A_C), (0x9A#8, .sbc_A_D), (0x9B#8, .sbc_A_E),
      (0x9C#8, .sbc_A_H), (0x9D#8, .sbc_A_L), (0x9E#8, .sbc_A_atHL), (0x9F#8, .sbc_A_A)] :
      List (Byte × Instr)), decodeBytes p.1 0x34#8 0x12#8 = p.2 := by decide

theorem test_decode_primary_row_A :
    ∀ p ∈ ([(0xA0#8, .and_B), (0xA1#8, .and_C), (0xA2#8, .and_D), (0xA3#8, .and_E),
      (0xA4#8, .and_H), (0xA5#8, .and_L), (0xA6#8, .and_atHL), (0xA7#8, .and_A),
      (0xA8#8, .xor_B), (0xA9#8, .xor_C), (0xAA#8, .xor_D), (0xAB#8, .xor_E),
      (0xAC#8, .xor_H), (0xAD#8, .xor_L), (0xAE#8, .xor_atHL), (0xAF#8, .xor_A)] :
      List (Byte × Instr)), decodeBytes p.1 0x34#8 0x12#8 = p.2 := by decide

theorem test_decode_primary_row_B :
    ∀ p ∈ ([(0xB0#8, .or_B), (0xB1#8, .or_C), (0xB2#8, .or_D), (0xB3#8, .or_E),
      (0xB4#8, .or_H), (0xB5#8, .or_L), (0xB6#8, .or_atHL), (0xB7#8, .or_A),
      (0xB8#8, .cp_B), (0xB9#8, .cp_C), (0xBA#8, .cp_D), (0xBB#8, .cp_E),
      (0xBC#8, .cp_H), (0xBD#8, .cp_L), (0xBE#8, .cp_atHL), (0xBF#8, .cp_A)] :
      List (Byte × Instr)), decodeBytes p.1 0x34#8 0x12#8 = p.2 := by decide

theorem test_decode_primary_row_C :
    ∀ p ∈ ([(0xC0#8, .ret_NZ), (0xC1#8, .pop_BC), (0xC2#8, .jp_NZ_nn 0x1234#16), (0xC3#8, .jp_nn 0x1234#16),
      (0xC4#8, .call_NZ_nn 0x1234#16), (0xC5#8, .push_BC), (0xC6#8, .add_A_n 0x34#8), (0xC7#8, .rst_00),
      (0xC8#8, .ret_Z), (0xC9#8, .ret), (0xCA#8, .jp_Z_nn 0x1234#16), (0xCC#8, .call_Z_nn 0x1234#16),
      (0xCD#8, .call_nn 0x1234#16), (0xCE#8, .adc_A_n 0x34#8), (0xCF#8, .rst_08)] :
      List (Byte × Instr)), decodeBytes p.1 0x34#8 0x12#8 = p.2 := by decide

theorem test_decode_primary_row_D :
    ∀ p ∈ ([(0xD0#8, .ret_NC), (0xD1#8, .pop_DE), (0xD2#8, .jp_NC_nn 0x1234#16), (0xD3#8, .illegal 0xD3#8),
      (0xD4#8, .call_NC_nn 0x1234#16), (0xD5#8, .push_DE), (0xD6#8, .sub_n 0x34#8), (0xD7#8, .rst_10),
      (0xD8#8, .ret_C), (0xD9#8, .reti), (0xDA#8, .jp_C_nn 0x1234#16), (0xDB#8, .illegal 0xDB#8),
      (0xDC#8, .call_C_nn 0x1234#16), (0xDD#8, .illegal 0xDD#8), (0xDE#8, .sbc_A_n 0x34#8), (0xDF#8, .rst_18)] :
      List (Byte × Instr)), decodeBytes p.1 0x34#8 0x12#8 = p.2 := by decide

theorem test_decode_primary_row_E :
    ∀ p ∈ ([(0xE0#8, .ldh_atn_A 0x34#8), (0xE1#8, .pop_HL), (0xE2#8, .ld_atC_A), (0xE3#8, .illegal 0xE3#8),
      (0xE4#8, .illegal 0xE4#8), (0xE5#8, .push_HL), (0xE6#8, .and_n 0x34#8), (0xE7#8, .rst_20),
      (0xE8#8, .add_SP_e 0x34#8), (0xE9#8, .jp_HL), (0xEA#8, .ld_atnn_A 0x1234#16), (0xEB#8, .illegal 0xEB#8),
      (0xEC#8, .illegal 0xEC#8), (0xED#8, .illegal 0xED#8), (0xEE#8, .xor_n 0x34#8), (0xEF#8, .rst_28)] :
      List (Byte × Instr)), decodeBytes p.1 0x34#8 0x12#8 = p.2 := by decide

theorem test_decode_primary_row_F :
    ∀ p ∈ ([(0xF0#8, .ldh_A_atn 0x34#8), (0xF1#8, .pop_AF), (0xF2#8, .ld_A_atC), (0xF3#8, .di),
      (0xF4#8, .illegal 0xF4#8), (0xF5#8, .push_AF), (0xF6#8, .or_n 0x34#8), (0xF7#8, .rst_30),
      (0xF8#8, .ld_HL_SPe 0x34#8), (0xF9#8, .ld_SP_HL), (0xFA#8, .ld_A_atnn 0x1234#16), (0xFB#8, .ei),
      (0xFC#8, .illegal 0xFC#8), (0xFD#8, .illegal 0xFD#8), (0xFE#8, .cp_n 0x34#8), (0xFF#8, .rst_38)] :
      List (Byte × Instr)), decodeBytes p.1 0x34#8 0x12#8 = p.2 := by decide

theorem test_decode_cb_row_0 :
    ∀ p ∈ ([(0x00#8, .rlc_B), (0x01#8, .rlc_C), (0x02#8, .rlc_D), (0x03#8, .rlc_E),
      (0x04#8, .rlc_H), (0x05#8, .rlc_L), (0x06#8, .rlc_atHL), (0x07#8, .rlc_A),
      (0x08#8, .rrc_B), (0x09#8, .rrc_C), (0x0A#8, .rrc_D), (0x0B#8, .rrc_E),
      (0x0C#8, .rrc_H), (0x0D#8, .rrc_L), (0x0E#8, .rrc_atHL), (0x0F#8, .rrc_A)] :
      List (Byte × Instr)), decodeBytes 0xCB#8 p.1 0x12#8 = p.2 := by decide

theorem test_decode_cb_row_1 :
    ∀ p ∈ ([(0x10#8, .rl_B), (0x11#8, .rl_C), (0x12#8, .rl_D), (0x13#8, .rl_E),
      (0x14#8, .rl_H), (0x15#8, .rl_L), (0x16#8, .rl_atHL), (0x17#8, .rl_A),
      (0x18#8, .rr_B), (0x19#8, .rr_C), (0x1A#8, .rr_D), (0x1B#8, .rr_E),
      (0x1C#8, .rr_H), (0x1D#8, .rr_L), (0x1E#8, .rr_atHL), (0x1F#8, .rr_A)] :
      List (Byte × Instr)), decodeBytes 0xCB#8 p.1 0x12#8 = p.2 := by decide

theorem test_decode_cb_row_2 :
    ∀ p ∈ ([(0x20#8, .sla_B), (0x21#8, .sla_C), (0x22#8, .sla_D), (0x23#8, .sla_E),
      (0x24#8, .sla_H), (0x25#8, .sla_L), (0x26#8, .sla_atHL), (0x27#8, .sla_A),
      (0x28#8, .sra_B), (0x29#8, .sra_C), (0x2A#8, .sra_D), (0x2B#8, .sra_E),
      (0x2C#8, .sra_H), (0x2D#8, .sra_L), (0x2E#8, .sra_atHL), (0x2F#8, .sra_A)] :
      List (Byte × Instr)), decodeBytes 0xCB#8 p.1 0x12#8 = p.2 := by decide

theorem test_decode_cb_row_3 :
    ∀ p ∈ ([(0x30#8, .swap_B), (0x31#8, .swap_C), (0x32#8, .swap_D), (0x33#8, .swap_E),
      (0x34#8, .swap_H), (0x35#8, .swap_L), (0x36#8, .swap_atHL), (0x37#8, .swap_A),
      (0x38#8, .srl_B), (0x39#8, .srl_C), (0x3A#8, .srl_D), (0x3B#8, .srl_E),
      (0x3C#8, .srl_H), (0x3D#8, .srl_L), (0x3E#8, .srl_atHL), (0x3F#8, .srl_A)] :
      List (Byte × Instr)), decodeBytes 0xCB#8 p.1 0x12#8 = p.2 := by decide

theorem test_decode_cb_row_4 :
    ∀ p ∈ ([(0x40#8, .bit_0_B), (0x41#8, .bit_0_C), (0x42#8, .bit_0_D), (0x43#8, .bit_0_E),
      (0x44#8, .bit_0_H), (0x45#8, .bit_0_L), (0x46#8, .bit_0_atHL), (0x47#8, .bit_0_A),
      (0x48#8, .bit_1_B), (0x49#8, .bit_1_C), (0x4A#8, .bit_1_D), (0x4B#8, .bit_1_E),
      (0x4C#8, .bit_1_H), (0x4D#8, .bit_1_L), (0x4E#8, .bit_1_atHL), (0x4F#8, .bit_1_A)] :
      List (Byte × Instr)), decodeBytes 0xCB#8 p.1 0x12#8 = p.2 := by decide

theorem test_decode_cb_row_5 :
    ∀ p ∈ ([(0x50#8, .bit_2_B), (0x51#8, .bit_2_C), (0x52#8, .bit_2_D), (0x53#8, .bit_2_E),
      (0x54#8, .bit_2_H), (0x55#8, .bit_2_L), (0x56#8, .bit_2_atHL), (0x57#8, .bit_2_A),
      (0x58#8, .bit_3_B), (0x59#8, .bit_3_C), (0x5A#8, .bit_3_D), (0x5B#8, .bit_3_E),
      (0x5C#8, .bit_3_H), (0x5D#8, .bit_3_L), (0x5E#8, .bit_3_atHL), (0x5F#8, .bit_3_A)] :
      List (Byte × Instr)), decodeBytes 0xCB#8 p.1 0x12#8 = p.2 := by decide

theorem test_decode_cb_row_6 :
    ∀ p ∈ ([(0x60#8, .bit_4_B), (0x61#8, .bit_4_C), (0x62#8, .bit_4_D), (0x63#8, .bit_4_E),
      (0x64#8, .bit_4_H), (0x65#8, .bit_4_L), (0x66#8, .bit_4_atHL), (0x67#8, .bit_4_A),
      (0x68#8, .bit_5_B), (0x69#8, .bit_5_C), (0x6A#8, .bit_5_D), (0x6B#8, .bit_5_E),
      (0x6C#8, .bit_5_H), (0x6D#8, .bit_5_L), (0x6E#8, .bit_5_atHL), (0x6F#8, .bit_5_A)] :
      List (Byte × Instr)), decodeBytes 0xCB#8 p.1 0x12#8 = p.2 := by decide

theorem test_decode_cb_row_7 :
    ∀ p ∈ ([(0x70#8, .bit_6_B), (0x71#8, .bit_6_C), (0x72#8, .bit_6_D), (0x73#8, .bit_6_E),
      (0x74#8, .bit_6_H), (0x75#8, .bit_6_L), (0x76#8, .bit_6_atHL), (0x77#8, .bit_6_A),
      (0x78#8, .bit_7_B), (0x79#8, .bit_7_C), (0x7A#8, .bit_7_D), (0x7B#8, .bit_7_E),
      (0x7C#8, .bit_7_H), (0x7D#8, .bit_7_L), (0x7E#8, .bit_7_atHL), (0x7F#8, .bit_7_A)] :
      List (Byte × Instr)), decodeBytes 0xCB#8 p.1 0x12#8 = p.2 := by decide

theorem test_decode_cb_row_8 :
    ∀ p ∈ ([(0x80#8, .res_0_B), (0x81#8, .res_0_C), (0x82#8, .res_0_D), (0x83#8, .res_0_E),
      (0x84#8, .res_0_H), (0x85#8, .res_0_L), (0x86#8, .res_0_atHL), (0x87#8, .res_0_A),
      (0x88#8, .res_1_B), (0x89#8, .res_1_C), (0x8A#8, .res_1_D), (0x8B#8, .res_1_E),
      (0x8C#8, .res_1_H), (0x8D#8, .res_1_L), (0x8E#8, .res_1_atHL), (0x8F#8, .res_1_A)] :
      List (Byte × Instr)), decodeBytes 0xCB#8 p.1 0x12#8 = p.2 := by decide

theorem test_decode_cb_row_9 :
    ∀ p ∈ ([(0x90#8, .res_2_B), (0x91#8, .res_2_C), (0x92#8, .res_2_D), (0x93#8, .res_2_E),
      (0x94#8, .res_2_H), (0x95#8, .res_2_L), (0x96#8, .res_2_atHL), (0x97#8, .res_2_A),
      (0x98#8, .res_3_B), (0x99#8, .res_3_C), (0x9A#8, .res_3_D), (0x9B#8, .res_3_E),
      (0x9C#8, .res_3_H), (0x9D#8, .res_3_L), (0x9E#8, .res_3_atHL), (0x9F#8, .res_3_A)] :
      List (Byte × Instr)), decodeBytes 0xCB#8 p.1 0x12#8 = p.2 := by decide

theorem test_decode_cb_row_A :
    ∀ p ∈ ([(0xA0#8, .res_4_B), (0xA1#8, .res_4_C), (0xA2#8, .res_4_D), (0xA3#8, .res_4_E),
      (0xA4#8, .res_4_H), (0xA5#8, .res_4_L), (0xA6#8, .res_4_atHL), (0xA7#8, .res_4_A),
      (0xA8#8, .res_5_B), (0xA9#8, .res_5_C), (0xAA#8, .res_5_D), (0xAB#8, .res_5_E),
      (0xAC#8, .res_5_H), (0xAD#8, .res_5_L), (0xAE#8, .res_5_atHL), (0xAF#8, .res_5_A)] :
      List (Byte × Instr)), decodeBytes 0xCB#8 p.1 0x12#8 = p.2 := by decide

theorem test_decode_cb_row_B :
    ∀ p ∈ ([(0xB0#8, .res_6_B), (0xB1#8, .res_6_C), (0xB2#8, .res_6_D), (0xB3#8, .res_6_E),
      (0xB4#8, .res_6_H), (0xB5#8, .res_6_L), (0xB6#8, .res_6_atHL), (0xB7#8, .res_6_A),
      (0xB8#8, .res_7_B), (0xB9#8, .res_7_C), (0xBA#8, .res_7_D), (0xBB#8, .res_7_E),
      (0xBC#8, .res_7_H), (0xBD#8, .res_7_L), (0xBE#8, .res_7_atHL), (0xBF#8, .res_7_A)] :
      List (Byte × Instr)), decodeBytes 0xCB#8 p.1 0x12#8 = p.2 := by decide

theorem test_decode_cb_row_C :
    ∀ p ∈ ([(0xC0#8, .set_0_B), (0xC1#8, .set_0_C), (0xC2#8, .set_0_D), (0xC3#8, .set_0_E),
      (0xC4#8, .set_0_H), (0xC5#8, .set_0_L), (0xC6#8, .set_0_atHL), (0xC7#8, .set_0_A),
      (0xC8#8, .set_1_B), (0xC9#8, .set_1_C), (0xCA#8, .set_1_D), (0xCB#8, .set_1_E),
      (0xCC#8, .set_1_H), (0xCD#8, .set_1_L), (0xCE#8, .set_1_atHL), (0xCF#8, .set_1_A)] :
      List (Byte × Instr)), decodeBytes 0xCB#8 p.1 0x12#8 = p.2 := by decide

theorem test_decode_cb_row_D :
    ∀ p ∈ ([(0xD0#8, .set_2_B), (0xD1#8, .set_2_C), (0xD2#8, .set_2_D), (0xD3#8, .set_2_E),
      (0xD4#8, .set_2_H), (0xD5#8, .set_2_L), (0xD6#8, .set_2_atHL), (0xD7#8, .set_2_A),
      (0xD8#8, .set_3_B), (0xD9#8, .set_3_C), (0xDA#8, .set_3_D), (0xDB#8, .set_3_E),
      (0xDC#8, .set_3_H), (0xDD#8, .set_3_L), (0xDE#8, .set_3_atHL), (0xDF#8, .set_3_A)] :
      List (Byte × Instr)), decodeBytes 0xCB#8 p.1 0x12#8 = p.2 := by decide

theorem test_decode_cb_row_E :
    ∀ p ∈ ([(0xE0#8, .set_4_B), (0xE1#8, .set_4_C), (0xE2#8, .set_4_D), (0xE3#8, .set_4_E),
      (0xE4#8, .set_4_H), (0xE5#8, .set_4_L), (0xE6#8, .set_4_atHL), (0xE7#8, .set_4_A),
      (0xE8#8, .set_5_B), (0xE9#8, .set_5_C), (0xEA#8, .set_5_D), (0xEB#8, .set_5_E),
      (0xEC#8, .set_5_H), (0xED#8, .set_5_L), (0xEE#8, .set_5_atHL), (0xEF#8, .set_5_A)] :
      List (Byte × Instr)), decodeBytes 0xCB#8 p.1 0x12#8 = p.2 := by decide

theorem test_decode_cb_row_F :
    ∀ p ∈ ([(0xF0#8, .set_6_B), (0xF1#8, .set_6_C), (0xF2#8, .set_6_D), (0xF3#8, .set_6_E),
      (0xF4#8, .set_6_H), (0xF5#8, .set_6_L), (0xF6#8, .set_6_atHL), (0xF7#8, .set_6_A),
      (0xF8#8, .set_7_B), (0xF9#8, .set_7_C), (0xFA#8, .set_7_D), (0xFB#8, .set_7_E),
      (0xFC#8, .set_7_H), (0xFD#8, .set_7_L), (0xFE#8, .set_7_atHL), (0xFF#8, .set_7_A)] :
      List (Byte × Instr)), decodeBytes 0xCB#8 p.1 0x12#8 = p.2 := by decide

/-- R258, x = 1: dst = D (010), src = A (111). -/
theorem test_bits_load : decode [0b01_010_111#8] = .ok (.ld_D_A, []) := by decide

/-- R258, x = 2: operation SBC (011), operand (HL) (110). -/
theorem test_bits_alu : decode [0b10_011_110#8] = .ok (.sbc_A_atHL, []) := by decide

/-- R253: rr = DE (01), then the word low byte first (R257). -/
theorem test_bits_pair : decode [0b00_01_0001#8, 0xCD#8, 0xAB#8, 0xEE#8] = .ok (.ld_DE_nn 0xABCD#16, [0xEE#8]) := by
  decide

/-- R254: qq = AF (11). -/
theorem test_bits_push : decode [0b11_11_0101#8] = .ok (.push_AF, []) := by decide

/-- R255: cc = NC (10). -/
theorem test_bits_condition : decode [0b001_10_000#8, 0xFE#8] = .ok (.jr_NC_e 0xFE#8, []) := by decide

/-- R256: t = 5. -/
theorem test_bits_rst : decode [0b11_101_111#8] = .ok (.rst_28, []) := by decide

/-- R259: kind SWAP (110) of E (011); bit 5 (101) of L (101). -/
theorem test_bits_cb :
    decode [0xCB#8, 0b00_110_011#8] = .ok (.swap_E, []) ∧ decode [0xCB#8, 0b11_101_101#8] = .ok (.set_5_L, []) := by
  decide

/-- R250: a list that ends inside an instruction. -/
theorem test_truncated : decode [0xCD#8, 0x00#8] = .error .truncated ∧ decode [] = .error .noOpcode := by
  decide

/-- The table's numbering of the two pages (log entry 4). -/
theorem test_table_word :
    decodeTableWord 16 0xCB40 = some .bit_0_B ∧ decodeTableWord 8 0x3C = some .inc_A ∧
      decodeTableWord 8 0xC3 = some (.jp_nn 0x0000#16) := by decide

/-! ### Instructions
Vectors of spec/95_test_vectors.md, section 2, under that file's entry conventions; one for each rule. -/

/-- Bytes placed from an address on. -/
def placeAll (s : State) (a : Word) : List Byte → State
  | [] => s
  | b :: rest => placeAll (s.place a b) (a + 1#16) rest

/-- IE at an entry value. -/
def withIe (s : State) (v : BitVec 5) : State := { s with intEnable := v }

/-- IF at an entry value. -/
def withIf (s : State) (v : BitVec 5) : State := { s with intFlag := v }

/-- The entry state of the vectors: the construction values with IF = 0 and the bytes at 0x0100. -/
def entry (bytes : List Byte) : State := withIf (placeAll .reset 0x0100#16 bytes) 0#5

/-- CPU steps, with the sum of their cycles. -/
def runSteps : Nat → State → State × Nat
  | 0, s => (s, 0)
  | n + 1, s =>
    match cpuStep s with
    | .next t => ((runSteps n t).1, t.host.cycles + (runSteps n t).2)
    | .fault _ => (s, 0)
    | .refused _ => (s, 0)

theorem test_V1_LD_B_C :
    let r := runSteps 1 (((entry [0x41#8]).setReg8 .b 0x12#8).setReg8 .c 0x34#8)
    r.2 = 4 ∧ r.1.host.exit = .step ∧
      r.1.flags.toByte = 0xB0#8 ∧ r.1.reg8 .b = 0x34#8 ∧ r.1.pc = 0x0101#16 := by decide

theorem test_V3_LD_A_0xA5 :
    let r := runSteps 1 ((entry [0x3E#8, 0xA5#8]).setReg8 .a 0x00#8)
    r.2 = 8 ∧ r.1.host.exit = .step ∧
      r.1.reg8 .a = 0xA5#8 ∧ r.1.flags.toByte = 0xB0#8 ∧ r.1.pc = 0x0102#16 := by decide

theorem test_V4_LD_H_HL :
    let r := runSteps 1 (((entry [0x66#8]).setReg16 .hl 0xC123#16).place 0xC123#16 0x77#8)
    r.2 = 8 ∧ r.1.host.exit = .step ∧
      r.1.flags.toByte = 0xB0#8 ∧ r.1.reg8 .h = 0x77#8 ∧ r.1.pc = 0x0101#16 := by decide

theorem test_V6_LD_HL_H :
    let r := runSteps 1 ((entry [0x74#8]).setReg16 .hl 0xC010#16)
    r.2 = 8 ∧ r.1.host.exit = .step ∧
      r.1.flags.toByte = 0xB0#8 ∧ r.1.pc = 0x0101#16 ∧ r.1.read 0xC010#16 = 0xC0#8 := by decide

theorem test_V7_LD_HL_0x12_through_echo :
    let r := runSteps 1 ((entry [0x36#8, 0x12#8]).setReg16 .hl 0xE100#16)
    r.2 = 12 ∧ r.1.host.exit = .step ∧
      r.1.flags.toByte = 0xB0#8 ∧ r.1.pc = 0x0102#16 ∧ r.1.read 0xC100#16 = 0x12#8 := by decide

theorem test_V8_LD_A_BC :
    let r := runSteps 1 (((entry [0x0A#8]).setReg16 .bc 0xC000#16).place 0xC000#16 0x07#8)
    r.2 = 8 ∧ r.1.host.exit = .step ∧
      r.1.reg8 .a = 0x07#8 ∧ r.1.flags.toByte = 0xB0#8 ∧ r.1.pc = 0x0101#16 := by decide

theorem test_V10_LD_BC_A :
    let r := runSteps 1 (((entry [0x02#8]).setReg8 .a 0x42#8).setReg16 .bc 0xC200#16)
    r.2 = 8 ∧ r.1.host.exit = .step ∧
      r.1.flags.toByte = 0xB0#8 ∧ r.1.pc = 0x0101#16 ∧ r.1.read 0xC200#16 = 0x42#8 := by decide

theorem test_V12_LD_A_0xFF0F :
    let r := runSteps 1 (withIf (entry [0xFA#8, 0x0F#8, 0xFF#8]) 0x05#5)
    r.2 = 16 ∧ r.1.host.exit = .step ∧
      r.1.reg8 .a = 0xE5#8 ∧ r.1.flags.toByte = 0xB0#8 ∧ r.1.pc = 0x0103#16 := by decide

theorem test_V13_LD_0xC000_A :
    let r := runSteps 1 ((entry [0xEA#8, 0x00#8, 0xC0#8]).setReg8 .a 0x3C#8)
    r.2 = 16 ∧ r.1.host.exit = .step ∧
      r.1.flags.toByte = 0xB0#8 ∧ r.1.pc = 0x0103#16 ∧ r.1.read 0xC000#16 = 0x3C#8 := by decide

theorem test_V14_LDH_A_0x44 :
    let r := runSteps 1 (entry [0xF0#8, 0x44#8])
    r.2 = 12 ∧ r.1.host.exit = .step ∧
      r.1.reg8 .a = 0x00#8 ∧ r.1.flags.toByte = 0xB0#8 ∧ r.1.pc = 0x0102#16 := by decide

theorem test_V15_LDH_0x80_A :
    let r := runSteps 1 ((entry [0xE0#8, 0x80#8]).setReg8 .a 0x11#8)
    r.2 = 12 ∧ r.1.host.exit = .step ∧
      r.1.flags.toByte = 0xB0#8 ∧ r.1.pc = 0x0102#16 ∧ r.1.read 0xFF80#16 = 0x11#8 := by decide

theorem test_V16_LD_A_C :
    let r := runSteps 1 ((entry [0xF2#8]).setReg8 .c 0x07#8)
    r.2 = 8 ∧ r.1.host.exit = .step ∧
      r.1.reg8 .a = 0xF8#8 ∧ r.1.flags.toByte = 0xB0#8 ∧ r.1.pc = 0x0101#16 := by decide

theorem test_V17_LD_C_A :
    let r := runSteps 1 (((entry [0xE2#8]).setReg8 .a 0x55#8).setReg8 .c 0x81#8)
    r.2 = 8 ∧ r.1.host.exit = .step ∧
      r.1.flags.toByte = 0xB0#8 ∧ r.1.pc = 0x0101#16 ∧ r.1.read 0xFF81#16 = 0x55#8 := by decide

theorem test_V18_LD_A_HL_wraps_HL :
    let r := runSteps 1 (withIe ((entry [0x2A#8]).setReg16 .hl 0xFFFF#16) 0x1F#5)
    r.2 = 8 ∧ r.1.host.exit = .step ∧
      r.1.reg8 .a = 0xFF#8 ∧ r.1.flags.toByte = 0xB0#8 ∧ r.1.reg8 .h = 0x00#8 ∧ r.1.reg8 .l = 0x00#8 ∧ r.1.pc = 0x0101#16 := by decide

theorem test_V19_LD_A_HL :
    let r := runSteps 1 (((entry [0x3A#8]).setReg16 .hl 0xC000#16).place 0xC000#16 0x21#8)
    r.2 = 8 ∧ r.1.host.exit = .step ∧
      r.1.reg8 .a = 0x21#8 ∧ r.1.flags.toByte = 0xB0#8 ∧ r.1.reg8 .h = 0xBF#8 ∧ r.1.reg8 .l = 0xFF#8 ∧ r.1.pc = 0x0101#16 := by decide

theorem test_V20_LD_HL_A :
    let r := runSteps 1 (((entry [0x22#8]).setReg8 .a 0x01#8).setReg16 .hl 0xC0FF#16)
    r.2 = 8 ∧ r.1.host.exit = .step ∧
      r.1.flags.toByte = 0xB0#8 ∧ r.1.reg8 .h = 0xC1#8 ∧ r.1.reg8 .l = 0x00#8 ∧ r.1.pc = 0x0101#16 ∧ r.1.read 0xC0FF#16 = 0x01#8 := by decide

theorem test_V21_LD_HL_A :
    let r := runSteps 1 (((entry [0x32#8]).setReg8 .a 0x02#8).setReg16 .hl 0xC100#16)
    r.2 = 8 ∧ r.1.host.exit = .step ∧
      r.1.flags.toByte = 0xB0#8 ∧ r.1.reg8 .h = 0xC0#8 ∧ r.1.reg8 .l = 0xFF#8 ∧ r.1.pc = 0x0101#16 ∧ r.1.read 0xC100#16 = 0x02#8 := by decide

theorem test_V22_LD_HL_0x1234 :
    let r := runSteps 1 (entry [0x21#8, 0x34#8, 0x12#8])
    r.2 = 12 ∧ r.1.host.exit = .step ∧
      r.1.flags.toByte = 0xB0#8 ∧ r.1.reg8 .h = 0x12#8 ∧ r.1.reg8 .l = 0x34#8 ∧ r.1.pc = 0x0103#16 := by decide

theorem test_V24_LD_0xC000_SP :
    let r := runSteps 1 ((entry [0x08#8, 0x00#8, 0xC0#8]).setSp 0xABCD#16)
    r.2 = 20 ∧ r.1.host.exit = .step ∧
      r.1.flags.toByte = 0xB0#8 ∧ r.1.pc = 0x0103#16 ∧ r.1.read 0xC000#16 = 0xCD#8 ∧ r.1.read 0xC001#16 = 0xAB#8 := by decide

theorem test_V25_LD_SP_HL :
    let r := runSteps 1 ((entry [0xF9#8]).setReg16 .hl 0xC0DE#16)
    r.2 = 8 ∧ r.1.host.exit = .step ∧
      r.1.flags.toByte = 0xB0#8 ∧ r.1.sp = 0xC0DE#16 ∧ r.1.pc = 0x0101#16 := by decide

theorem test_V26_PUSH_BC :
    let r := runSteps 1 (((entry [0xC5#8]).setReg16 .bc 0x1234#16).setSp 0xD000#16)
    r.2 = 16 ∧ r.1.host.exit = .step ∧
      r.1.flags.toByte = 0xB0#8 ∧ r.1.sp = 0xCFFE#16 ∧ r.1.pc = 0x0101#16 ∧ r.1.read 0xCFFE#16 = 0x34#8 ∧ r.1.read 0xCFFF#16 = 0x12#8 := by decide

theorem test_V27_PUSH_BC_with_SP_wrap :
    let r := runSteps 1 (((entry [0xC5#8]).setReg16 .bc 0xBEEF#16).setSp 0x0001#16)
    r.2 = 16 ∧ r.1.host.exit = .step ∧
      r.1.flags.toByte = 0xB0#8 ∧ r.1.sp = 0xFFFF#16 ∧ r.1.pc = 0x0101#16 ∧ r.1.intEnable = 0x0F#5 := by decide

theorem test_V28_POP_DE :
    let r := runSteps 1 ((((entry [0xD1#8]).setSp 0xD000#16).place 0xD000#16 0x34#8).place 0xD001#16 0x12#8)
    r.2 = 12 ∧ r.1.host.exit = .step ∧
      r.1.flags.toByte = 0xB0#8 ∧ r.1.reg8 .d = 0x12#8 ∧ r.1.reg8 .e = 0x34#8 ∧ r.1.sp = 0xD002#16 ∧ r.1.pc = 0x0101#16 := by decide

theorem test_V29_POP_AF_masks_F_3 :
    let r := runSteps 1 ((((entry [0xF1#8]).setSp 0xD000#16).place 0xD000#16 0xFF#8).place 0xD001#16 0x12#8)
    r.2 = 12 ∧ r.1.host.exit = .step ∧
      r.1.reg8 .a = 0x12#8 ∧ r.1.flags.toByte = 0xF0#8 ∧ r.1.sp = 0xD002#16 ∧ r.1.pc = 0x0101#16 := by decide

theorem test_V31_ADD_A_B :
    let r := runSteps 1 ((((entry [0x80#8]).setReg8 .a 0x3A#8).setReg8 .b 0xC6#8).setFlags (.ofByte 0x00#8))
    r.2 = 4 ∧ r.1.host.exit = .step ∧
      r.1.reg8 .a = 0x00#8 ∧ r.1.flags.toByte = 0xB0#8 ∧ r.1.pc = 0x0101#16 := by decide

theorem test_V34_ADD_A_0x0F :
    let r := runSteps 1 (((entry [0xC6#8, 0x0F#8]).setReg8 .a 0x01#8).setFlags (.ofByte 0x00#8))
    r.2 = 8 ∧ r.1.host.exit = .step ∧
      r.1.reg8 .a = 0x10#8 ∧ r.1.flags.toByte = 0x20#8 ∧ r.1.pc = 0x0102#16 := by decide

theorem test_V35_ADC_A_C_with_carry :
    let r := runSteps 1 ((((entry [0x89#8]).setReg8 .a 0xE1#8).setReg8 .c 0x0F#8).setFlags (.ofByte 0x10#8))
    r.2 = 4 ∧ r.1.host.exit = .step ∧
      r.1.reg8 .a = 0xF1#8 ∧ r.1.flags.toByte = 0x20#8 ∧ r.1.pc = 0x0101#16 := by decide

theorem test_V36_ADC_A_A :
    let r := runSteps 1 (((entry [0x8F#8]).setReg8 .a 0x80#8).setFlags (.ofByte 0x10#8))
    r.2 = 4 ∧ r.1.host.exit = .step ∧
      r.1.reg8 .a = 0x01#8 ∧ r.1.flags.toByte = 0x10#8 ∧ r.1.pc = 0x0101#16 := by decide

theorem test_V37_ADC_A_HL :
    let r := runSteps 1 (((((entry [0x8E#8]).setReg8 .a 0x01#8).setReg16 .hl 0x1234#16).setFlags (.ofByte 0xF0#8)).place 0x1234#16 0xFE#8)
    r.2 = 8 ∧ r.1.host.exit = .step ∧
      r.1.reg8 .a = 0x00#8 ∧ r.1.flags.toByte = 0xB0#8 ∧ r.1.pc = 0x0101#16 := by decide

theorem test_V39_SUB_B :
    let r := runSteps 1 ((((entry [0x90#8]).setReg8 .a 0x3E#8).setReg8 .b 0x3E#8).setFlags (.ofByte 0x00#8))
    r.2 = 4 ∧ r.1.host.exit = .step ∧
      r.1.reg8 .a = 0x00#8 ∧ r.1.flags.toByte = 0xC0#8 ∧ r.1.pc = 0x0101#16 := by decide

theorem test_V43_SBC_A_B_with_carry :
    let r := runSteps 1 ((((entry [0x98#8]).setReg8 .a 0x3B#8).setReg8 .b 0x2A#8).setFlags (.ofByte 0x10#8))
    r.2 = 4 ∧ r.1.host.exit = .step ∧
      r.1.reg8 .a = 0x10#8 ∧ r.1.flags.toByte = 0x40#8 ∧ r.1.pc = 0x0101#16 := by decide

theorem test_V44_SBC_A_A_with_carry :
    let r := runSteps 1 (((entry [0x9F#8]).setReg8 .a 0x00#8).setFlags (.ofByte 0x10#8))
    r.2 = 4 ∧ r.1.host.exit = .step ∧
      r.1.reg8 .a = 0xFF#8 ∧ r.1.flags.toByte = 0x70#8 ∧ r.1.pc = 0x0101#16 := by decide

theorem test_V47_AND_B :
    let r := runSteps 1 ((((entry [0xA0#8]).setReg8 .a 0x5A#8).setReg8 .b 0xA5#8).setFlags (.ofByte 0x10#8))
    r.2 = 4 ∧ r.1.host.exit = .step ∧
      r.1.reg8 .a = 0x00#8 ∧ r.1.flags.toByte = 0xA0#8 ∧ r.1.pc = 0x0101#16 := by decide

theorem test_V50_XOR_A :
    let r := runSteps 1 (((entry [0xAF#8]).setReg8 .a 0x77#8).setFlags (.ofByte 0x70#8))
    r.2 = 4 ∧ r.1.host.exit = .step ∧
      r.1.reg8 .a = 0x00#8 ∧ r.1.flags.toByte = 0x80#8 ∧ r.1.pc = 0x0101#16 := by decide

theorem test_V53_OR_A :
    let r := runSteps 1 (((entry [0xB7#8]).setReg8 .a 0x00#8).setFlags (.ofByte 0x30#8))
    r.2 = 4 ∧ r.1.host.exit = .step ∧
      r.1.flags.toByte = 0x80#8 ∧ r.1.pc = 0x0101#16 := by decide

theorem test_V56_CP_B :
    let r := runSteps 1 ((((entry [0xB8#8]).setReg8 .a 0x3C#8).setReg8 .b 0x2F#8).setFlags (.ofByte 0x00#8))
    r.2 = 4 ∧ r.1.host.exit = .step ∧
      r.1.flags.toByte = 0x60#8 ∧ r.1.pc = 0x0101#16 := by decide

theorem test_V59_INC_A :
    let r := runSteps 1 (((entry [0x3C#8]).setReg8 .a 0xFF#8).setFlags (.ofByte 0x10#8))
    r.2 = 4 ∧ r.1.host.exit = .step ∧
      r.1.reg8 .a = 0x00#8 ∧ r.1.flags.toByte = 0xB0#8 ∧ r.1.pc = 0x0101#16 := by decide

theorem test_V61_INC_HL :
    let r := runSteps 1 ((((entry [0x34#8]).setReg16 .hl 0xC000#16).setFlags (.ofByte 0x00#8)).place 0xC000#16 0x50#8)
    r.2 = 12 ∧ r.1.host.exit = .step ∧
      r.1.flags.toByte = 0x00#8 ∧ r.1.pc = 0x0101#16 ∧ r.1.read 0xC000#16 = 0x51#8 := by decide

theorem test_V62_DEC_B :
    let r := runSteps 1 (((entry [0x05#8]).setReg8 .b 0x01#8).setFlags (.ofByte 0x10#8))
    r.2 = 4 ∧ r.1.host.exit = .step ∧
      r.1.flags.toByte = 0xD0#8 ∧ r.1.reg8 .b = 0x00#8 ∧ r.1.pc = 0x0101#16 := by decide

theorem test_V63_DEC_C :
    let r := runSteps 1 (((entry [0x0D#8]).setReg8 .c 0x00#8).setFlags (.ofByte 0x00#8))
    r.2 = 4 ∧ r.1.host.exit = .step ∧
      r.1.flags.toByte = 0x60#8 ∧ r.1.reg8 .c = 0xFF#8 ∧ r.1.pc = 0x0101#16 := by decide

theorem test_V64_DEC_HL :
    let r := runSteps 1 ((((entry [0x35#8]).setReg16 .hl 0xC000#16).setFlags (.ofByte 0x00#8)).place 0xC000#16 0x00#8)
    r.2 = 12 ∧ r.1.host.exit = .step ∧
      r.1.flags.toByte = 0x60#8 ∧ r.1.pc = 0x0101#16 ∧ r.1.read 0xC000#16 = 0xFF#8 := by decide

theorem test_V65_DAA_after_0x45_0x38 :
    let r := runSteps 1 (((entry [0x27#8]).setReg8 .a 0x7D#8).setFlags (.ofByte 0x00#8))
    r.2 = 4 ∧ r.1.host.exit = .step ∧
      r.1.reg8 .a = 0x83#8 ∧ r.1.flags.toByte = 0x00#8 ∧ r.1.pc = 0x0101#16 := by decide

theorem test_V66_DAA :
    let r := runSteps 1 (((entry [0x27#8]).setReg8 .a 0x9A#8).setFlags (.ofByte 0x00#8))
    r.2 = 4 ∧ r.1.host.exit = .step ∧
      r.1.reg8 .a = 0x00#8 ∧ r.1.flags.toByte = 0x90#8 ∧ r.1.pc = 0x0101#16 := by decide

theorem test_V68_DAA_after_subtraction_with_H :
    let r := runSteps 1 (((entry [0x27#8]).setReg8 .a 0x0F#8).setFlags (.ofByte 0x60#8))
    r.2 = 4 ∧ r.1.host.exit = .step ∧
      r.1.reg8 .a = 0x09#8 ∧ r.1.flags.toByte = 0x40#8 ∧ r.1.pc = 0x0101#16 := by decide

theorem test_V70_CPL :
    let r := runSteps 1 (((entry [0x2F#8]).setReg8 .a 0x35#8).setFlags (.ofByte 0x00#8))
    r.2 = 4 ∧ r.1.host.exit = .step ∧
      r.1.reg8 .a = 0xCA#8 ∧ r.1.flags.toByte = 0x60#8 ∧ r.1.pc = 0x0101#16 := by decide

theorem test_V71_SCF :
    let r := runSteps 1 ((entry [0x37#8]).setFlags (.ofByte 0xE0#8))
    r.2 = 4 ∧ r.1.host.exit = .step ∧
      r.1.flags.toByte = 0x90#8 ∧ r.1.pc = 0x0101#16 := by decide

theorem test_V72_CCF :
    let r := runSteps 1 ((entry [0x3F#8]).setFlags (.ofByte 0xB0#8))
    r.2 = 4 ∧ r.1.host.exit = .step ∧
      r.1.flags.toByte = 0x80#8 ∧ r.1.pc = 0x0101#16 := by decide

theorem test_V73_ADD_HL_BC :
    let r := runSteps 1 ((((entry [0x09#8]).setReg16 .hl 0x8A23#16).setReg16 .bc 0x0605#16).setFlags (.ofByte 0x80#8))
    r.2 = 8 ∧ r.1.host.exit = .step ∧
      r.1.flags.toByte = 0xA0#8 ∧ r.1.reg8 .h = 0x90#8 ∧ r.1.reg8 .l = 0x28#8 ∧ r.1.pc = 0x0101#16 := by decide

theorem test_V76_INC_BC :
    let r := runSteps 1 (((entry [0x03#8]).setReg16 .bc 0xFFFF#16).setFlags (.ofByte 0x00#8))
    r.2 = 8 ∧ r.1.host.exit = .step ∧
      r.1.flags.toByte = 0x00#8 ∧ r.1.reg8 .b = 0x00#8 ∧ r.1.reg8 .c = 0x00#8 ∧ r.1.pc = 0x0101#16 := by decide

theorem test_V78_DEC_DE :
    let r := runSteps 1 (((entry [0x1B#8]).setReg16 .de 0x0000#16).setFlags (.ofByte 0x00#8))
    r.2 = 8 ∧ r.1.host.exit = .step ∧
      r.1.flags.toByte = 0x00#8 ∧ r.1.reg8 .d = 0xFF#8 ∧ r.1.reg8 .e = 0xFF#8 ∧ r.1.pc = 0x0101#16 := by decide

theorem test_V80_ADD_SP_1 :
    let r := runSteps 1 (((entry [0xE8#8, 0x01#8]).setSp 0x00FF#16).setFlags (.ofByte 0x00#8))
    r.2 = 16 ∧ r.1.host.exit = .step ∧
      r.1.flags.toByte = 0x30#8 ∧ r.1.sp = 0x0100#16 ∧ r.1.pc = 0x0102#16 := by decide

theorem test_V81_ADD_SP_1_from_0 :
    let r := runSteps 1 (((entry [0xE8#8, 0xFF#8]).setSp 0x0000#16).setFlags (.ofByte 0xF0#8))
    r.2 = 16 ∧ r.1.host.exit = .step ∧
      r.1.flags.toByte = 0x00#8 ∧ r.1.sp = 0xFFFF#16 ∧ r.1.pc = 0x0102#16 := by decide

theorem test_V83_LD_HL_SP_2 :
    let r := runSteps 1 (((entry [0xF8#8, 0x02#8]).setSp 0xFFF8#16).setFlags (.ofByte 0xF0#8))
    r.2 = 12 ∧ r.1.host.exit = .step ∧
      r.1.flags.toByte = 0x00#8 ∧ r.1.reg8 .h = 0xFF#8 ∧ r.1.reg8 .l = 0xFA#8 ∧ r.1.pc = 0x0102#16 := by decide

theorem test_V85_RLCA :
    let r := runSteps 1 (((entry [0x07#8]).setReg8 .a 0x85#8).setFlags (.ofByte 0x80#8))
    r.2 = 4 ∧ r.1.host.exit = .step ∧
      r.1.reg8 .a = 0x0B#8 ∧ r.1.flags.toByte = 0x10#8 ∧ r.1.pc = 0x0101#16 := by decide

theorem test_V87_RRCA :
    let r := runSteps 1 (((entry [0x0F#8]).setReg8 .a 0x01#8).setFlags (.ofByte 0x00#8))
    r.2 = 4 ∧ r.1.host.exit = .step ∧
      r.1.reg8 .a = 0x80#8 ∧ r.1.flags.toByte = 0x10#8 ∧ r.1.pc = 0x0101#16 := by decide

theorem test_V88_RLA_with_carry_in :
    let r := runSteps 1 (((entry [0x17#8]).setReg8 .a 0x95#8).setFlags (.ofByte 0x10#8))
    r.2 = 4 ∧ r.1.host.exit = .step ∧
      r.1.reg8 .a = 0x2B#8 ∧ r.1.flags.toByte = 0x10#8 ∧ r.1.pc = 0x0101#16 := by decide

theorem test_V89_RRA :
    let r := runSteps 1 (((entry [0x1F#8]).setReg8 .a 0x81#8).setFlags (.ofByte 0x00#8))
    r.2 = 4 ∧ r.1.host.exit = .step ∧
      r.1.reg8 .a = 0x40#8 ∧ r.1.flags.toByte = 0x10#8 ∧ r.1.pc = 0x0101#16 := by decide

theorem test_V90_RLC_B :
    let r := runSteps 1 (((entry [0xCB#8, 0x00#8]).setReg8 .b 0x85#8).setFlags (.ofByte 0x00#8))
    r.2 = 8 ∧ r.1.host.exit = .step ∧
      r.1.flags.toByte = 0x10#8 ∧ r.1.reg8 .b = 0x0B#8 ∧ r.1.pc = 0x0102#16 := by decide

theorem test_V92_RLC_HL :
    let r := runSteps 1 ((((entry [0xCB#8, 0x06#8]).setReg16 .hl 0xC000#16).setFlags (.ofByte 0x00#8)).place 0xC000#16 0x80#8)
    r.2 = 16 ∧ r.1.host.exit = .step ∧
      r.1.flags.toByte = 0x10#8 ∧ r.1.pc = 0x0102#16 ∧ r.1.read 0xC000#16 = 0x01#8 := by decide

theorem test_V93_RRC_C :
    let r := runSteps 1 (((entry [0xCB#8, 0x09#8]).setReg8 .c 0x01#8).setFlags (.ofByte 0x00#8))
    r.2 = 8 ∧ r.1.host.exit = .step ∧
      r.1.flags.toByte = 0x10#8 ∧ r.1.reg8 .c = 0x80#8 ∧ r.1.pc = 0x0102#16 := by decide

theorem test_V95_RL_C :
    let r := runSteps 1 (((entry [0xCB#8, 0x11#8]).setReg8 .c 0x80#8).setFlags (.ofByte 0x00#8))
    r.2 = 8 ∧ r.1.host.exit = .step ∧
      r.1.flags.toByte = 0x90#8 ∧ r.1.reg8 .c = 0x00#8 ∧ r.1.pc = 0x0102#16 := by decide

theorem test_V97_RR_A :
    let r := runSteps 1 (((entry [0xCB#8, 0x1F#8]).setReg8 .a 0x01#8).setFlags (.ofByte 0x00#8))
    r.2 = 8 ∧ r.1.host.exit = .step ∧
      r.1.reg8 .a = 0x00#8 ∧ r.1.flags.toByte = 0x90#8 ∧ r.1.pc = 0x0102#16 := by decide

theorem test_V99_SLA_D :
    let r := runSteps 1 (((entry [0xCB#8, 0x22#8]).setReg8 .d 0x80#8).setFlags (.ofByte 0x00#8))
    r.2 = 8 ∧ r.1.host.exit = .step ∧
      r.1.flags.toByte = 0x90#8 ∧ r.1.reg8 .d = 0x00#8 ∧ r.1.pc = 0x0102#16 := by decide

theorem test_V101_SRA_A_keeps_bit_7 :
    let r := runSteps 1 (((entry [0xCB#8, 0x2F#8]).setReg8 .a 0x8A#8).setFlags (.ofByte 0x00#8))
    r.2 = 8 ∧ r.1.host.exit = .step ∧
      r.1.reg8 .a = 0xC5#8 ∧ r.1.flags.toByte = 0x00#8 ∧ r.1.pc = 0x0102#16 := by decide

theorem test_V103_SWAP_A_of_0 :
    let r := runSteps 1 (((entry [0xCB#8, 0x37#8]).setReg8 .a 0x00#8).setFlags (.ofByte 0x10#8))
    r.2 = 8 ∧ r.1.host.exit = .step ∧
      r.1.flags.toByte = 0x80#8 ∧ r.1.pc = 0x0102#16 := by decide

theorem test_V105_SWAP_HL :
    let r := runSteps 1 ((((entry [0xCB#8, 0x36#8]).setReg16 .hl 0xC000#16).setFlags (.ofByte 0x00#8)).place 0xC000#16 0x12#8)
    r.2 = 16 ∧ r.1.host.exit = .step ∧
      r.1.flags.toByte = 0x00#8 ∧ r.1.pc = 0x0102#16 ∧ r.1.read 0xC000#16 = 0x21#8 := by decide

theorem test_V106_SRL_A :
    let r := runSteps 1 (((entry [0xCB#8, 0x3F#8]).setReg8 .a 0x01#8).setFlags (.ofByte 0x00#8))
    r.2 = 8 ∧ r.1.host.exit = .step ∧
      r.1.reg8 .a = 0x00#8 ∧ r.1.flags.toByte = 0x90#8 ∧ r.1.pc = 0x0102#16 := by decide

theorem test_V108_BIT_7_A_set :
    let r := runSteps 1 (((entry [0xCB#8, 0x7F#8]).setReg8 .a 0x80#8).setFlags (.ofByte 0x00#8))
    r.2 = 8 ∧ r.1.host.exit = .step ∧
      r.1.flags.toByte = 0x20#8 ∧ r.1.pc = 0x0102#16 := by decide

theorem test_V110_BIT_0_HL :
    let r := runSteps 1 ((((entry [0xCB#8, 0x46#8]).setReg16 .hl 0xC000#16).setFlags (.ofByte 0x00#8)).place 0xC000#16 0xFE#8)
    r.2 = 12 ∧ r.1.host.exit = .step ∧
      r.1.flags.toByte = 0xA0#8 ∧ r.1.pc = 0x0102#16 := by decide

theorem test_V111_RES_0_A :
    let r := runSteps 1 (((entry [0xCB#8, 0x87#8]).setReg8 .a 0xFF#8).setFlags (.ofByte 0x00#8))
    r.2 = 8 ∧ r.1.host.exit = .step ∧
      r.1.reg8 .a = 0xFE#8 ∧ r.1.flags.toByte = 0x00#8 ∧ r.1.pc = 0x0102#16 := by decide

theorem test_V112_RES_7_HL :
    let r := runSteps 1 ((((entry [0xCB#8, 0xBE#8]).setReg16 .hl 0xC000#16).setFlags (.ofByte 0xF0#8)).place 0xC000#16 0xFF#8)
    r.2 = 16 ∧ r.1.host.exit = .step ∧
      r.1.flags.toByte = 0xF0#8 ∧ r.1.pc = 0x0102#16 ∧ r.1.read 0xC000#16 = 0x7F#8 := by decide

theorem test_V113_SET_0_B :
    let r := runSteps 1 (((entry [0xCB#8, 0xC0#8]).setReg8 .b 0x00#8).setFlags (.ofByte 0x00#8))
    r.2 = 8 ∧ r.1.host.exit = .step ∧
      r.1.flags.toByte = 0x00#8 ∧ r.1.reg8 .b = 0x01#8 ∧ r.1.pc = 0x0102#16 := by decide

theorem test_V114_SET_7_HL :
    let r := runSteps 1 ((((entry [0xCB#8, 0xFE#8]).setReg16 .hl 0xC000#16).setFlags (.ofByte 0x00#8)).place 0xC000#16 0x00#8)
    r.2 = 16 ∧ r.1.host.exit = .step ∧
      r.1.flags.toByte = 0x00#8 ∧ r.1.pc = 0x0102#16 ∧ r.1.read 0xC000#16 = 0x80#8 := by decide

theorem test_V115_JP_0x0150 :
    let r := runSteps 1 (entry [0xC3#8, 0x50#8, 0x01#8])
    r.2 = 16 ∧ r.1.host.exit = .step ∧
      r.1.flags.toByte = 0xB0#8 ∧ r.1.pc = 0x0150#16 := by decide

theorem test_V116_JP_NZ_taken :
    let r := runSteps 1 ((entry [0xC2#8, 0x50#8, 0x01#8]).setFlags (.ofByte 0x00#8))
    r.2 = 16 ∧ r.1.host.exit = .step ∧
      r.1.flags.toByte = 0x00#8 ∧ r.1.pc = 0x0150#16 := by decide

theorem test_V119_JP_HL :
    let r := runSteps 1 ((entry [0xE9#8]).setReg16 .hl 0xC000#16)
    r.2 = 4 ∧ r.1.host.exit = .step ∧
      r.1.flags.toByte = 0xB0#8 ∧ r.1.pc = 0xC000#16 := by decide

theorem test_V120_JR_2 :
    let r := runSteps 1 (entry [0x18#8, 0xFE#8])
    r.2 = 12 ∧ r.1.host.exit = .step ∧
      r.1.flags.toByte = 0xB0#8 ∧ r.1.pc = 0x0100#16 := by decide

theorem test_V122_JR_NZ_not_taken :
    let r := runSteps 1 ((entry [0x20#8, 0x05#8]).setFlags (.ofByte 0x80#8))
    r.2 = 8 ∧ r.1.host.exit = .step ∧
      r.1.flags.toByte = 0x80#8 ∧ r.1.pc = 0x0102#16 := by decide

theorem test_V123_JR_C_128_taken :
    let r := runSteps 1 ((entry [0x38#8, 0x80#8]).setFlags (.ofByte 0x10#8))
    r.2 = 12 ∧ r.1.host.exit = .step ∧
      r.1.flags.toByte = 0x10#8 ∧ r.1.pc = 0x0082#16 := by decide

theorem test_V124_CALL_0x0200 :
    let r := runSteps 1 ((entry [0xCD#8, 0x00#8, 0x02#8]).setSp 0xD000#16)
    r.2 = 24 ∧ r.1.host.exit = .step ∧
      r.1.flags.toByte = 0xB0#8 ∧ r.1.sp = 0xCFFE#16 ∧ r.1.pc = 0x0200#16 ∧ r.1.read 0xCFFE#16 = 0x03#8 ∧ r.1.read 0xCFFF#16 = 0x01#8 := by decide

theorem test_V125_CALL_NZ_not_taken :
    let r := runSteps 1 (((entry [0xC4#8, 0x00#8, 0x02#8]).setSp 0xD000#16).setFlags (.ofByte 0x80#8))
    r.2 = 12 ∧ r.1.host.exit = .step ∧
      r.1.flags.toByte = 0x80#8 ∧ r.1.pc = 0x0103#16 := by decide

theorem test_V127_RET :
    let r := runSteps 1 ((((entry [0xC9#8]).setSp 0xD000#16).place 0xD000#16 0x34#8).place 0xD001#16 0x12#8)
    r.2 = 16 ∧ r.1.host.exit = .step ∧
      r.1.flags.toByte = 0xB0#8 ∧ r.1.sp = 0xD002#16 ∧ r.1.pc = 0x1234#16 := by decide

theorem test_V128_RET_Z_taken :
    let r := runSteps 1 (((((entry [0xC8#8]).setSp 0xD000#16).setFlags (.ofByte 0x80#8)).place 0xD000#16 0x34#8).place 0xD001#16 0x12#8)
    r.2 = 20 ∧ r.1.host.exit = .step ∧
      r.1.flags.toByte = 0x80#8 ∧ r.1.sp = 0xD002#16 ∧ r.1.pc = 0x1234#16 := by decide

theorem test_V130_RETI_sets_IME_at_once :
    let r := runSteps 1 (((((entry [0xD9#8]).setSp 0xD000#16).setIme false).place 0xD000#16 0x34#8).place 0xD001#16 0x12#8)
    r.2 = 16 ∧ r.1.host.exit = .step ∧
      r.1.flags.toByte = 0xB0#8 ∧ r.1.sp = 0xD002#16 ∧ r.1.pc = 0x1234#16 ∧ r.1.cpu.ime = true := by decide

theorem test_V131_RST_0x38 :
    let r := runSteps 1 ((entry [0xFF#8]).setSp 0xD000#16)
    r.2 = 16 ∧ r.1.host.exit = .step ∧
      r.1.flags.toByte = 0xB0#8 ∧ r.1.sp = 0xCFFE#16 ∧ r.1.pc = 0x0038#16 ∧ r.1.read 0xCFFE#16 = 0x01#8 ∧ r.1.read 0xCFFF#16 = 0x01#8 := by decide

theorem test_V133_NOP :
    let r := runSteps 1 (entry [0x00#8])
    r.2 = 4 ∧ r.1.host.exit = .step ∧
      r.1.flags.toByte = 0xB0#8 ∧ r.1.pc = 0x0101#16 := by decide

theorem test_V134_HALT :
    let r := runSteps 1 (withIe (entry [0x76#8]) 0x00#5)
    r.2 = 4 ∧ r.1.host.exit = .halt ∧
      r.1.flags.toByte = 0xB0#8 ∧ r.1.pc = 0x0101#16 ∧ r.1.cpu.mode = .halted := by decide

theorem test_V137_STOP :
    let r := runSteps 1 (entry [0x10#8, 0x00#8])
    r.2 = 4 ∧ r.1.host.exit = .stopped ∧
      r.1.flags.toByte = 0xB0#8 ∧ r.1.pc = 0x0102#16 ∧ r.1.cpu.mode = .stopped := by decide

theorem test_V138_EI_pending_STOP_then_a :
    let r := runSteps 2 (withIf (withIe (((entry [0x10#8, 0x00#8]).setIme false).setEiDelay 2) 0x1F#5) 0x1F#5)
    r.2 = 8 ∧ r.1.host.exit = .stopped ∧
      r.1.flags.toByte = 0xB0#8 ∧ r.1.pc = 0x0102#16 ∧ r.1.cpu.ime = true ∧ r.1.cpu.mode = .stopped := by decide

theorem test_V139_DI :
    let r := runSteps 1 ((entry [0xF3#8]).setIme true)
    r.2 = 4 ∧ r.1.host.exit = .step ∧
      r.1.flags.toByte = 0xB0#8 ∧ r.1.pc = 0x0101#16 ∧ r.1.cpu.ime = false := by decide

theorem test_V140_EI_DI_NOP_with_Vblank :
    let r := runSteps 3 (withIf (withIe ((entry [0xFB#8, 0xF3#8, 0x00#8]).setIme false) 0x01#5) 0x01#5)
    r.2 = 12 ∧ r.1.host.exit = .step ∧
      r.1.flags.toByte = 0xB0#8 ∧ r.1.pc = 0x0103#16 := by decide

theorem test_V143_ILLEGAL_0xD3_under_Lock :
    let r := runSteps 1 (entry [0xD3#8])
    r.2 = 4 ∧ r.1.host.exit = .locked ∧
      r.1.flags.toByte = 0xB0#8 ∧ r.1.pc = 0x0101#16 ∧ r.1.cpu.mode = .locked ∧ r.1.cpu.faultRecord = some { pc := 0x0100#16, op := 0xD3#8 } := by decide

theorem test_V144_ILLEGAL_0xD3_under_Nop :
    let r := runSteps 1 ({ (entry [0xD3#8]) with illegalMode := .nop } : State)
    r.2 = 4 ∧ r.1.host.exit = .step ∧
      r.1.flags.toByte = 0xB0#8 ∧ r.1.pc = 0x0101#16 := by decide

theorem test_V146_Timer_Serial_and_Joypad_pending :
    let r := runSteps 1 ((withIf (withIe ((entry [0x00#8]).setIme true) 0x1F#5) 0x1C#5).setSp 0xD000#16)
    r.2 = 20 ∧ r.1.host.exit = .interruptTaken ∧
      r.1.flags.toByte = 0xB0#8 ∧ r.1.sp = 0xCFFE#16 ∧ r.1.pc = 0x0050#16 ∧ r.1.cpu.ime = false ∧ r.1.intFlag = 0x18#5 ∧ r.1.read 0xCFFF#16 = 0x01#8 := by decide

theorem test_V147_Vblank_requested_but_not_enabled :
    let r := runSteps 1 ((withIf (withIe ((entry [0x00#8]).setIme true) 0x02#5) 0x01#5).setSp 0xD000#16)
    r.2 = 4 ∧ r.1.host.exit = .step ∧
      r.1.flags.toByte = 0xB0#8 ∧ r.1.pc = 0x0101#16 := by decide

theorem test_V148_Service_with_SP_0x0001 :
    let r := runSteps 1 ((withIf (withIe ((entry [0x00#8]).setIme true) 0x10#5) 0x10#5).setSp 0x0001#16)
    r.2 = 20 ∧ r.1.host.exit = .interruptTaken ∧
      r.1.flags.toByte = 0xB0#8 ∧ r.1.sp = 0xFFFF#16 ∧ r.1.pc = 0x0060#16 ∧ r.1.cpu.ime = false ∧ r.1.intFlag = 0x00#5 ∧ r.1.intEnable = 0x00#5 := by decide

theorem test_V149_Halted_CPU_Timer_pending_IME :
    let r := runSteps 1 ((withIf (withIe (((entry [0x00#8]).setMode .halted).setIme true) 0x04#5) 0x04#5).setSp 0xD000#16)
    r.2 = 20 ∧ r.1.host.exit = .interruptTaken ∧
      r.1.flags.toByte = 0xB0#8 ∧ r.1.sp = 0xCFFE#16 ∧ r.1.pc = 0x0050#16 ∧ r.1.cpu.ime = false ∧ r.1.intFlag = 0x00#5 ∧ r.1.cpu.mode = .running ∧ r.1.read 0xCFFF#16 = 0x01#8 := by decide

theorem test_V150_Locked_CPU :
    let r := runSteps 1 (withIf (withIe (((entry [0x00#8]).setMode .locked).setIme true) 0x01#5) 0x01#5)
    r.2 = 4 ∧ r.1.host.exit = .locked ∧
      r.1.flags.toByte = 0xB0#8 ∧ r.1.pc = 0x0100#16 := by decide

theorem test_V151_ei_delay_1_matures_at :
    let r := runSteps 1 ((withIf (withIe (((entry [0x00#8]).setEiDelay 1).setIme false) 0x01#5) 0x01#5).setSp 0xD000#16)
    r.2 = 20 ∧ r.1.host.exit = .interruptTaken ∧
      r.1.flags.toByte = 0xB0#8 ∧ r.1.sp = 0xCFFE#16 ∧ r.1.pc = 0x0040#16 ∧ r.1.intFlag = 0x00#5 ∧ r.1.read 0xCFFF#16 = 0x01#8 := by decide

/-! ### Devices
Vectors of spec/95_test_vectors.md, section 3. -/

/-- A state with a timer. -/
def withTimer (divCounter : Word) (tima tma : Byte) (tac : BitVec 3) : State :=
  { withIf .reset 0#5 with
    timer := { divCounter := divCounter, tima := tima, tma := tma, tac := tac, reloadDelay := 0 } }

/-- Ticks of the timer alone. -/
def timerTicks : Nat → State → State
  | 0, s => s
  | n + 1, s => timerTicks n s.tickTimer

theorem test_TV1_overflow :
    let s := timerTicks 16 (withTimer 0x0000#16 0xFF#8 0x10#8 0b101#3)
    s.timer.tima = 0x00#8 ∧ s.timer.reloadDelay = 4 ∧ s.intFlag = 0x00#5 := by decide +kernel

theorem test_TV1_reload :
    let s := timerTicks 20 (withTimer 0x0000#16 0xFF#8 0x10#8 0b101#3)
    s.timer.tima = 0x10#8 ∧ s.timer.reloadDelay = 0 ∧ s.intFlag = 0x04#5 := by decide +kernel

theorem test_TV2_div_write_falling_edge :
    ((withTimer 0x0008#16 0x20#8 0x00#8 0b101#3).write 0xFF04#16 0x55#8).timer.tima = 0x21#8 := by decide

theorem test_TV7_tac_write_no_edge :
    ((withTimer 0x0028#16 0x20#8 0x00#8 0b101#3).write 0xFF07#16 0x06#8).timer.tima = 0x20#8 := by decide

theorem test_TV9_tima_write_cancels_reload :
    let s := timerTicks 4 ((timerTicks 16 (withTimer 0x0000#16 0xFF#8 0x10#8 0b101#3)).write 0xFF05#16 0x77#8)
    s.timer.tima = 0x77#8 ∧ s.intFlag = 0x00#5 := by decide +kernel

/-- A PPU at a place in the frame. -/
def ppuAt (ly : Byte) (dot : Nat) (mode : PpuMode) : Ppu := { Ppu.postBoot with ly := ly, dot := dot, mode := mode }

/-- A state with that PPU. -/
def withPpu (p : Ppu) : State := { withIf .reset 0#5 with ppu := p }

theorem test_PV8_vblank_entry :
    let s := (withPpu (ppuAt 143#8 455 .hblank)).tickPpu
    s.ppu.ly = 144#8 ∧ s.ppu.dot = 0 ∧ s.ppu.mode = .vblank ∧ s.ppu.frameReady = true ∧ s.intFlag = 0x01#5 := by
  decide

theorem test_PV10_frame_wraps :
    let s := (withPpu (ppuAt 153#8 455 .vblank)).tickPpu
    s.ppu.ly = 0#8 ∧ s.ppu.dot = 0 ∧ s.ppu.mode = .oamScan := by decide

theorem test_PV11_lyc_match_requests_lcd :
    let s := (withPpu { ppuAt 0#8 455 .hblank with statSelect := 0b1000#4, lyc := 1#8 }).tickPpu
    s.intFlag = 0x02#5 ∧ s.read 0xFF41#16 = 0xC6#8 := by decide

theorem test_PV16_lcd_off :
    let s := (withPpu (ppuAt 2#8 88 .drawing)).write 0xFF40#16 0x11#8
    s.ppu.ly = 0#8 ∧ s.ppu.dot = 0 ∧ s.ppu.mode = .hblank ∧ s.read 0xFF41#16 = 0x84#8 := by decide

/-- The PPU and the VRAM of GV4 with attribute `attr`. -/
def gv4Pixel (attr : Byte) (x : Nat) : BitVec 2 :=
  Ppu.pixel { Ppu.postBoot with lcdc := 0x93#8, bgp := 0xE4#8, obp0 := 0xE4#8 } [(0, 0x80#8), (1, 0x80#8), (16, 0xFF#8)]
    [{ y := 16, x := 8, tile := 0x01#8, attr := attr }] x

theorem test_GV4_sprite_behind_background : gv4Pixel 0x80#8 0 = 3#2 ∧ gv4Pixel 0x80#8 1 = 1#2 := by decide

theorem test_GV5_sprite_in_front : gv4Pixel 0x00#8 0 = 1#2 ∧ gv4Pixel 0x00#8 7 = 1#2 := by decide

/-- GV6: the window from column 80 on. -/
theorem test_GV6_window :
    let p : Ppu := { Ppu.postBoot with lcdc := 0xF1#8, wx := 87#8, bgp := 0xE4#8 }
    let vram : Memory := [(0x20, 0xFF#8), (0x21, 0xFF#8), (0x1C00, 0x02#8)]
    p.pixel vram [] 79 = 0#2 ∧ p.pixel vram [] 80 = 3#2 := by decide

/-- The MBC1 cartridge of the MV vectors, with the ROM bytes the tests read. -/
def mbc1State : State :=
  { State.reset with
    cart :=
      { romBanks := 64, ramSize := 32768, mapper := .mbc1 .postBoot
        rom := [(0x4000, 0x01#8), (0x14000, 0x05#8), (0x84000, 0x21#8)], sram := [] } }

/-- The MBC3 cartridge of the RV vectors, with the ROM bytes the tests read. -/
def mbc3State : State :=
  { State.reset with
    cart :=
      { romBanks := 128, ramSize := 32768, mapper := .mbc3 .postBoot
        rom := [(0x4000, 0x01#8), (0x14000, 0x05#8)], sram := [] } }

theorem test_MV3_bank_20_maps_21 :
    ((mbc1State.write 0x4000#16 0x01#8).write 0x2000#16 0x00#8).read 0x4000#16 = 0x21#8 := by decide

theorem test_MV6_ram_enable :
    ((mbc1State.write 0x0000#16 0x1A#8).write 0xA000#16 0x5A#8).read 0xA000#16 = 0x5A#8 ∧
      mbc1State.read 0xA000#16 = 0xFF#8 := by decide

theorem test_RV2_bank_mask : (mbc3State.write 0x2000#16 0x85#8).read 0x4000#16 = 0x05#8 := by decide

/-- RV3: the latch sequence takes one sample, whatever it is. -/
theorem test_RV3_latch :
    let s := ((((mbc3State.write 0x0000#16 0x0A#8).write 0x4000#16 0x09#8).write 0x6000#16 0x00#8).write 0x6000#16 0x01#8)
    s.read 0xA000#16 = (Config.hostRtcSample 0).minutes ∧ s.host.rtcSamples = 1 := ⟨rfl, rfl⟩

theorem test_RV7_rtc_write :
    ((mbc3State.write 0x0000#16 0x0A#8).write 0x4000#16 0x0A#8 |>.write 0xA000#16 0x10#8).host.rtcWrites =
      [{ register := 2, value := 0x10#8 }] := by decide

theorem test_MV12_type_not_in_table : mapperOfType 0x05#8 = none := by decide

theorem test_IV4_joypad_lines :
    let s := (withIf .reset 0#5).setButtons 0x11#8
    s.intFlag = 0x10#5 ∧ (s.write 0xFF00#16 0x30#8).read 0xFF00#16 = 0xFF#8 ∧
      (s.write 0xFF00#16 0x00#8).read 0xFF00#16 = 0xCE#8 := by decide

theorem test_IV8_serial_stores :
    let s := (State.reset.write 0xFF01#16 0x42#8).write 0xFF02#16 0x81#8
    s.read 0xFF01#16 = 0x42#8 ∧ s.read 0xFF02#16 = 0xFF#8 := by decide

theorem test_IV12_echo :
    (State.reset.write 0xFDFF#16 0x3D#8).read 0xDDFF#16 = 0x3D#8 := by decide

/-! ### Placing an instruction -/

/-- The step after reset runs the instruction that `withFetchWord` places: INC A, A from 0x01 to 0x02. -/
theorem test_withFetchWord :
    (match cpuStep (State.reset.withFetchWord 8 0x3C) with
      | .next t => decide (t.reg8 .a = 0x02#8) && decide (t.pc = 0x0101#16)
      | .fault _ => false
      | .refused _ => false) = true := by decide

/-! ### The test harness
Scenarios of spec/95_test_vectors.md, section 1, as records (R697). -/

/-- S3, with the ack of its service: the lowest pending interrupt is taken. -/
def recordS3 : TestRecord :=
  { entry := { ime := some true, intEnable := some 0x03#5, intFlag := some 0x03#5, pc := some 0x1234#16 }
    acks := [{ cycle := 20, interrupt := .vblank }]
    expected :=
      { pc := some 0x0040#16, intFlag := some 0x02#5, ime := some false, sp := some 0xFFFC#16
        bytes := [(0xFFFC#16, 0x34#8), (0xFFFD#16, 0x12#8)] }
    time := 20, exit := .interruptTaken, stop := .oneStep }

theorem test_S3_priority : recordS3.passes = true := by decide +kernel

/-- S3 with an ack that no step answers: of another cycle, and of the interrupt that is not taken. -/
theorem test_ack_without_step :
    TestRecord.passes { recordS3 with acks := [{ cycle := 16, interrupt := .vblank }] } = false ∧
      TestRecord.passes { recordS3 with acks := [{ cycle := 20, interrupt := .lcd }] } = false := by decide +kernel

/-- S6: a trigger at cycle 0, and IF not given at entry. -/
def recordS6 : TestRecord :=
  { entry := { ime := some false, pc := some 0x1234#16, intEnable := some 0x01#5, bytes := [(0x1234#16, 0x00#8)] }
    triggers := [{ cycle := 0, set := 0x01#5 }]
    expected := { pc := some 0x1235#16, ime := some false, intFlag := some 0x01#5 }
    time := 4, exit := .step, stop := .cycles 4 }

theorem test_S6_masked : recordS6.passes = true := by decide +kernel

/-- S6 with another total T, another exit reason, another expected state; and without the trigger, where IF is 0x00. -/
theorem test_exit_checks :
    TestRecord.passes { recordS6 with time := 8 } = false ∧
      TestRecord.passes { recordS6 with exit := .halt } = false ∧
      TestRecord.passes { recordS6 with expected := { pc := some 0x1234#16 } } = false ∧
      TestRecord.passes { recordS6 with triggers := [], expected := { intFlag := some 0x00#5 } } = true := by
  decide +kernel

/-! ### Hypotheses that are met
For each obligation with hypotheses, a concrete state and operands that meet them, each clause at a boundary. -/

/-- The states the witnesses use: the construction state with every interrupt enabled. -/
def ready : State := { State.reset with intEnable := 0x1F#5 }

theorem test_ready_inv : ready.Inv := by
  refine ⟨⟨rfl, rfl, rfl, rfl, rfl, rfl, rfl⟩, ⟨by decide, by decide, fun _ => rfl⟩,
    ⟨by decide, ⟨(fun h => nomatch h), fun h => absurd rfl h⟩, (fun h => nomatch h)⟩, by decide,
    ⟨by decide, by decide, by decide, fun _ => ⟨by decide, rfl⟩, fun h => absurd h (by decide)⟩⟩

/-- A locked CPU, with its fault recorded. -/
def lockedState : State :=
  { ready with cpu := { ready.cpu with mode := .locked, faultRecord := some { pc := 0x0100#16, op := 0xD3#8 } } }

/-- A stopped CPU. -/
def stoppedState : State := ready.setMode .stopped

theorem test_lockedState_inv : lockedState.Inv :=
  inv_withCpu (u := ready) rfl test_ready_inv
    ⟨by decide, ⟨(fun _ h => nomatch h), fun _ => rfl⟩, (fun h => nomatch h)⟩

theorem test_stoppedState_inv : stoppedState.Inv :=
  inv_withCpu (u := ready) rfl test_ready_inv
    ⟨by decide, ⟨(fun h => nomatch h), fun h => absurd rfl h⟩, (fun h => nomatch h)⟩

theorem test_meets_DecodeInvertsEncode :
    (Instr.illegal 0xFD#8).wellFormed = true ∧ (Instr.ld_BC_nn 0xFFFF#16).wellFormed = true := by decide

theorem test_meets_EncodeInvertsDecode :
    decode [0xCB#8, 0xFF#8, 0x00#8] = .ok (.set_7_A, [0x00#8]) ∧ decode [0xFF#8] = .ok (.rst_38, []) := by decide

theorem test_meets_DecodeTotalByOpcodeByte :
    opcodeLength 0xCD#8 ≤ [0xCD#8, 0x00#8, 0x40#8].length ∧ [0xCD#8, 0x00#8].length < opcodeLength 0xCD#8 ∧
      [0x3E#8].length < opcodeLength 0x3E#8 ∧ opcodeLength 0x00#8 ≤ [0x00#8].length ∧
      0xD3#8 ∈ unassignedOpcodes ∧ 0xFD#8 ∈ unassignedOpcodes ∧ 0xCB#8 ∉ unassignedOpcodes ∧
      0xFE#8 ∉ unassignedOpcodes := by decide

/-- The frames: a register not in the list, an address that a store does not reach, a byte of RAM. -/
theorem test_meets_frames :
    Reg8.b ∉ [Reg8.a] ∧ Reg16.bc ≠ .sp ∧ ready.CanonicalMemory ∧ ready.isRam 0xC000#16 = true ∧
      ready.isRam 0xFFFE#16 = true ∧ ready.writeReaches 0xC000#16 0xC001#16 = false ∧
      ready.writeReaches 0xFF40#16 0xFF42#16 = false ∧ ready.writeReaches 0xC000#16 0xE000#16 = true :=
  ⟨by decide, by decide, test_ready_inv.memory, by decide, by decide, by decide, by decide, by decide⟩

/-- TwoByteStores, CallsAndRestarts: two bytes of RAM in a row. -/
theorem test_meets_two_stores :
    ready.CanonicalMemory ∧ ready.isRam (ready.sp - 1#16) = true ∧ ready.isRam (ready.sp - 2#16) = true ∧
      ready.writeReaches (ready.sp - 2#16) (ready.sp - 1#16) = false ∧
      ready.writeReaches (ready.sp - 1#16) 0xC000#16 = false ∧
      (ready.write (ready.sp - 1#16) 0x01#8).writeReaches (ready.sp - 2#16) 0xC000#16 = false :=
  ⟨test_ready_inv.memory, by decide, by decide, by decide, by decide, by decide⟩

theorem test_meets_PushThenPopRestores :
    ready.Inv ∧ ready.isRam (ready.sp - 1#16) = true ∧ ready.isRam (ready.sp - 2#16) = true :=
  ⟨test_ready_inv, by decide, by decide⟩

theorem test_meets_AluAdditions : (AluOp.add = .add ∨ AluOp.add = .adc) ∧ (AluOp.adc = .add ∨ AluOp.adc = .adc) := by
  decide

theorem test_meets_AluSubtractions :
    (∀ op ∈ [AluOp.sub, .sbc, .cp], op = .sub ∨ op = .sbc ∨ op = .cp) ∧ AluOp.sub ≠ .cp := by decide

theorem test_meets_AluLogic : ∀ op ∈ [AluOp.and, .xor, .or], op = .and ∨ op = .xor ∨ op = .or := by decide

theorem test_meets_DecimalAdjustAfterAddAndSub :
    let s := (ready.setReg8 .a 0x99#8).setReg8 .b 0x00#8
    99 < 100 ∧ 0 < 100 ∧ s.reg8 .a = bcd 99 ∧ s.reg8 .b = bcd 0 := by decide

/-- Jumps, CallsAndRestarts, Returns: a state that meets each condition and one that does not. -/
theorem test_meets_conditions :
    (Flags.mk false false false false).Meets .nz ∧ ¬ (Flags.mk true false false false).Meets .nz ∧
      (Flags.mk true false false false).Meets .z ∧ ¬ (Flags.mk false false false false).Meets .z ∧
      (Flags.mk false false false false).Meets .nc ∧ ¬ (Flags.mk false false false true).Meets .nc ∧
      (Flags.mk false false false true).Meets .c ∧ ¬ (Flags.mk false false false false).Meets .c := by
  simp [Flags.Meets]

theorem test_meets_UnassignedOpcodes :
    (Instr.illegal 0xD3#8).wellFormed = true ∧ (Instr.illegal 0xFD#8).wellFormed = true ∧ ready.illegalMode = .lock ∧
      State.illegalMode { ready with illegalMode := .nop } = .nop := by decide

/-- A halted CPU with a request pending and IME = 0, and a running one with EI maturing and nothing pending. -/
theorem test_meets_StepRunsDecodedInstruction :
    (let s := (withIf ready 0x01#5).setMode .halted
    (s.cpu.mode = .running ∨ (s.cpu.mode = .halted ∧ s.pending ≠ 0#5)) ∧
      ((s.cpu.ime = true ∨ s.cpu.eiDelay = 1) → s.pending = 0#5) ∧
      decode [s.read s.pc, s.read (s.pc + 1#16), s.read (s.pc + 2#16)] = .ok (.nop, [0x00#8, 0x00#8])) ∧
    (let s := (withIf ready 0x00#5).setEiDelay 1
    (s.cpu.mode = .running ∨ (s.cpu.mode = .halted ∧ s.pending ≠ 0#5)) ∧
      ((s.cpu.ime = true ∨ s.cpu.eiDelay = 1) → s.pending = 0#5) ∧
      decode [s.read s.pc, s.read (s.pc + 1#16), s.read (s.pc + 2#16)] = .ok (.nop, [0x00#8, 0x00#8])) := by
  decide

/-- A running CPU with EI maturing and the Joypad, the last in priority; a halted one with IME and all five. -/
theorem test_meets_StepServicesInterrupt :
    (let s := (withIf ready 0x10#5).setEiDelay 1
    (s.cpu.mode = .running ∨ s.cpu.mode = .halted) ∧ (s.cpu.ime = true ∨ s.cpu.eiDelay = 1) ∧
      s.pending.getLsbD Interrupt.joypad.bit = true ∧
      (∀ j ∈ [Interrupt.vblank, .lcd, .timer, .serial], s.pending.getLsbD j.bit = false) ∧
      s.writeReaches (s.sp - 1#16) 0xC000#16 = false ∧
      (s.write (s.sp - 1#16) 0x01#8).writeReaches (s.sp - 2#16) 0xC000#16 = false ∧
      s.isRam (s.sp - 1#16) = true ∧ s.isRam (s.sp - 2#16) = true) ∧
    (let s := ((withIf ready 0x1F#5).setMode .halted).setIme true
    (s.cpu.mode = .running ∨ s.cpu.mode = .halted) ∧ (s.cpu.ime = true ∨ s.cpu.eiDelay = 1) ∧
      s.pending.getLsbD Interrupt.vblank.bit = true) := by decide

/-- EI at PC with IME = 0; after it NOP, and DI; and a third step with an interrupt pending. -/
theorem test_meets_EnableTakesEffectAfterNextInstruction :
    (let s := ((withIf ready 0x01#5).place 0x0100#16 0xFB#8)
    s.cpu.mode = .running ∧ s.cpu.ime = false ∧ s.cpu.eiDelay = 0 ∧ s.read s.pc = 0xFB#8 ∧
      s.read (s.pc + 1#16) ≠ 0xF3#8 ∧ (s.place 0x0101#16 0xF3#8).read (s.pc + 1#16) = 0xF3#8 ∧ s.pending ≠ 0#5) := by
  decide +kernel

theorem test_meets_IdleStepsExecuteNothing :
    (lockedState.cpu.mode = .locked ∧ ExitReason.locked = .locked) ∧
      (stoppedState.cpu.mode = .stopped ∧ ExitReason.stopped = .stopped) ∧
      (let s := (withIf ready 0x00#5).setMode .halted
      s.cpu.mode = .halted ∧ s.pending = 0#5 ∧ ExitReason.halt = .halt) := by decide

theorem test_meets_InvariantKeptByStep : ready.Inv ∧ ∃ t, step ready = .next t :=
  ⟨test_ready_inv, (step_cases ready).elim fun _ h => ⟨_, h.1⟩⟩

theorem test_meets_ConfigurationAndRomKept : ∃ t, step lockedState = .next t :=
  (step_cases lockedState).elim fun _ h => ⟨_, h.1⟩

/-- An image of zeros with the three header bytes that construction reads. -/
def imageWith (typeByte romByte ramByte : Byte) (length : Nat) : List Byte :=
  List.replicate 0x147 0#8 ++ (typeByte :: romByte :: ramByte :: List.replicate (length - 0x14A) 0#8)

theorem test_imageWith_length (t r m : Byte) (n : Nat) (h : 0x14A ≤ n) : (imageWith t r m n).length = n := by
  simp only [imageWith, List.length_append, List.length_replicate, List.length_cons]
  omega

theorem test_imageWith_header (t r m : Byte) (n : Nat) :
    (imageWith t r m n).getD 0x0147 0#8 = t ∧ (imageWith t r m n).getD 0x0148 0#8 = r ∧
      (imageWith t r m n).getD 0x0149 0#8 = m := by
  have past : ∀ (k j : Nat) (l : List Byte), (List.replicate k 0#8 ++ l).getD (k + j) 0#8 = l.getD j 0#8 := by
    intro k j l
    rw [List.getD_append_right _ _ _ _ (by rw [List.length_replicate]; omega), List.length_replicate, Nat.add_sub_cancel_left]
  exact ⟨past 0x147 0 _, past 0x147 1 _, past 0x147 2 _⟩

/-- The hypothesis of ConstructionFromImage. -/
def Malformed (image : List Byte) : Prop :=
  let typeByte := (image.getD 0x0147 0#8).toNat
  let romByte := (image.getD 0x0148 0#8).toNat
  let ramByte := (image.getD 0x0149 0#8).toNat
  image.length < 0x150 ∨ typeByte ∉ [0x00, 0x01, 0x02, 0x03, 0x0F, 0x10, 0x11, 0x12, 0x13] ∨ romByte > 0x08 ∨
    ramByte > 0x05 ∨ image.length ≠ 2 * 2 ^ romByte * 16384 ∨ (typeByte = 0x00 ∧ romByte ≠ 0)

theorem test_malformed_iff (t r m : Byte) (n : Nat) (h : 0x14A ≤ n) :
    Malformed (imageWith t r m n) ↔
      n < 0x150 ∨ t.toNat ∉ [0x00, 0x01, 0x02, 0x03, 0x0F, 0x10, 0x11, 0x12, 0x13] ∨ r.toNat > 0x08 ∨ m.toNat > 0x05 ∨
        n ≠ 2 * 2 ^ r.toNat * 16384 ∨ (t.toNat = 0x00 ∧ r.toNat ≠ 0) := by
  obtain ⟨h1, h2, h3⟩ := test_imageWith_header t r m n
  simp only [Malformed, h1, h2, h3, test_imageWith_length t r m n h]

/-- One image for each reason alone: a byte too short; a type, ROM size and RAM size byte just past the table; a byte too
long; ROM-only with four banks. And two that are well formed, the smallest and the largest. -/
theorem test_meets_ConstructionFromImage :
    Malformed (imageWith 0x00#8 0x00#8 0x00#8 0x14F) ∧ Malformed (imageWith 0x14#8 0x00#8 0x00#8 0x8000) ∧
      Malformed (imageWith 0x01#8 0x09#8 0x00#8 0x1000000) ∧ Malformed (imageWith 0x01#8 0x00#8 0x06#8 0x8000) ∧
      Malformed (imageWith 0x01#8 0x00#8 0x00#8 0x8001) ∧ Malformed (imageWith 0x00#8 0x01#8 0x00#8 0x10000) ∧
      ¬ Malformed (imageWith 0x00#8 0x00#8 0x00#8 0x8000) ∧ ¬ Malformed (imageWith 0x13#8 0x08#8 0x05#8 0x800000) := by
  refine ⟨?_, ?_, ?_, ?_, ?_, ?_, ?_, ?_⟩ <;> rw [test_malformed_iff _ _ _ _ (by decide)] <;> decide

/-- The 32 KiB image that is well formed, whose core is constructed around the `ram_init` of zeros. -/
theorem test_meets_ResetMeetsInvariant :
    (∃ s, new (imageWith 0x00#8 0x00#8 0x00#8 0x8000) none .zero .lock = .next s) ∧
      Memory.wf 8192 RamInit.zero.vram = true ∧ Memory.wf 8192 RamInit.zero.wram = true ∧
      Memory.wf 160 RamInit.zero.oam = true ∧ Memory.wf 127 RamInit.zero.hram = true := by
  refine ⟨?_, by decide, by decide, by decide, by decide⟩
  obtain ⟨h1, h2, h3⟩ := test_imageWith_header 0x00#8 0x00#8 0x00#8 0x8000
  have hn := test_imageWith_length 0x00#8 0x00#8 0x00#8 0x8000 (by decide)
  refine ⟨.postBoot { Cart.blank with rom := Store.ofListFrom 0 (imageWith 0x00#8 0x00#8 0x00#8 0x8000) } .zero .lock, ?_⟩
  unfold new Cart.ofImage
  rw [h1, h2, h3, hn]
  rfl

/-- The first and the last address of each range. -/
theorem test_meets_AddressDecoder :
    (∀ a ∈ [0x0000#16, 0x7FFF#16], a.toNat < 0x8000) ∧
      (∀ a ∈ [0x8000#16, 0x9FFF#16], 0x8000 ≤ a.toNat ∧ a.toNat < 0xA000) ∧
      (∀ a ∈ [0xA000#16, 0xBFFF#16], 0xA000 ≤ a.toNat ∧ a.toNat < 0xC000) ∧
      (∀ a ∈ [0xC000#16, 0xDFFF#16], 0xC000 ≤ a.toNat ∧ a.toNat < 0xE000) ∧
      (∀ a ∈ [0xE000#16, 0xFDFF#16], 0xE000 ≤ a.toNat ∧ a.toNat < 0xFE00) ∧
      (∀ a ∈ [0xFE00#16, 0xFE9F#16], 0xFE00 ≤ a.toNat ∧ a.toNat < 0xFEA0) ∧
      (∀ a ∈ [0xFEA0#16, 0xFEFF#16], 0xFEA0 ≤ a.toNat ∧ a.toNat < 0xFF00) ∧
      (∀ a ∈ [0xFF00#16, 0xFF7F#16], 0xFF00 ≤ a.toNat ∧ a.toNat < 0xFF80) ∧
      (∀ a ∈ [0xFF80#16, 0xFFFE#16], 0xFF80 ≤ a.toNat ∧ a.toNat < 0xFFFF) ∧ (0xFFFF#16).toNat = 0xFFFF := by simp

theorem test_meets_IoRegisterMap :
    (∀ a ∈ [0xFF03#16, 0xFF08#16, 0xFF0E#16, 0xFF10#16, 0xFF3F#16, 0xFF4C#16, 0xFF7F#16],
      a = 0xFF03#16 ∨ (0xFF08 ≤ a.toNat ∧ a.toNat ≤ 0xFF0E) ∨ (0xFF10 ≤ a.toNat ∧ a.toNat ≤ 0xFF3F) ∨
        (0xFF4C ≤ a.toNat ∧ a.toNat ≤ 0xFF7F)) ∧
      (ready.write 0xFF40#16 0x11#8).Inv ∧ (ready.write 0xFF40#16 0x11#8).ppu.lcdc.getLsbD 7 = false :=
  ⟨by simp, write_inv ready 0xFF40#16 0x11#8 test_ready_inv, by decide⟩

theorem test_meets_BusWriteReaches :
    ready.writeReaches 0xC000#16 0xDFFF#16 = false ∧ ready.writeReaches 0xFF46#16 0xFE9F#16 = true ∧
      ready.writeReaches 0xFF46#16 0xFEA0#16 = false ∧ mbc1State.writeReaches 0x2000#16 0x3FFF#16 = false ∧
      mbc1State.writeReaches 0x2000#16 0x4000#16 = true := by decide +kernel

theorem test_meets_BusWriteReaches_form : ready.CanonicalMemory := test_ready_inv.memory

/-- An MBC1 cartridge with 2 KiB of RAM, enabled. -/
def smallRamState : State :=
  { ready with
    cart :=
      { romBanks := 2, ramSize := 2048, mapper := .mbc1 { Mbc1.postBoot with ramEnabled := true }, rom := [], sram := [] } }

/-- RAM in every array, an echo, and cartridge RAM of 2 KiB with the first and the last address of its four repeats. -/
theorem test_meets_RamReadsBackAndEcho :
    ready.CanonicalMemory ∧
      (∀ a ∈ [0x8000#16, 0x9FFF#16, 0xC000#16, 0xFDFF#16, 0xFE00#16, 0xFE9F#16, 0xFF80#16, 0xFFFE#16],
        ready.isRam a = true) ∧
      ready.writeReaches 0xC000#16 0xE000#16 = true ∧ 0xE000 ≤ (0xFDFF#16).toNat ∧ (0xFDFF#16).toNat < 0xFE00 :=
  ⟨test_ready_inv.memory, by simp only [List.forall_mem_cons]; decide +kernel, by decide +kernel, by simp, by simp⟩

theorem test_meets_RamReadsBackAndEcho_cartridge :
    smallRamState.CanonicalMemory ∧ smallRamState.cart.ramSize = 2048 ∧ smallRamState.isRam 0xA000#16 = true ∧
      smallRamState.isRam 0xBFFF#16 = true ∧ smallRamState.writeReaches 0xA000#16 0xB800#16 = true ∧
      smallRamState.writeReaches 0xBFFF#16 0xA7FF#16 = true ∧ smallRamState.writeReaches 0xA000#16 0xA001#16 = false ∧
      0xA000 ≤ (0xA000#16).toNat ∧ (0xBFFF#16).toNat < 0xC000 ∧
      (0xB800#16).toNat % 2048 = (0xA000#16).toNat % 2048 ∧ (0xA7FF#16).toNat % 2048 = (0xBFFF#16).toNat % 2048 :=
  ⟨⟨rfl, rfl, rfl, rfl, rfl, rfl, rfl⟩, rfl, by decide, by decide, by decide, by decide, by decide, by decide,
    by decide, by decide, by decide⟩

/-- R206: a 2 KiB RAM repeats four times in the window. -/
theorem test_small_ram_repeats : (smallRamState.write 0xA123#16 0x5A#8).read 0xB923#16 = 0x5A#8 := by decide

theorem test_meets_OamDmaCopies : ready.CanonicalMemory ∧ 0 < 160 ∧ 159 < 160 :=
  ⟨test_ready_inv.memory, by decide, by decide⟩

/-- The three mappers, and MBC1's RAM with the RAM enabled, disabled and absent. -/
theorem test_meets_RomOnlyAndMbc1 :
    ready.cart.mapper = .romOnly ∧ mbc1State.cart.mapper = .mbc1 .postBoot ∧ Mbc1.postBoot.ramEnabled = false ∧
      Mbc1.ramEnabled { Mbc1.postBoot with ramEnabled := true } = true ∧ mbc1State.cart.ramSize ≠ 0 ∧
      ready.cart.ramSize = 0 ∧
      (∀ p ∈ [(0x0000, 0x1FFF), (0x2000, 0x3FFF), (0x4000, 0x5FFF), (0x6000, 0x7FFF), (0xA000, 0xBFFF)],
        (BitVec.ofNat 16 p.1).toNat = p.1 ∧ (BitVec.ofNat 16 p.2).toNat = p.2) := by decide

/-- A latch that completes and one that does not; RAM and RTC selections at the ends of their ranges. -/
theorem test_meets_Mbc3Cartridge :
    mbc3State.cart.mapper = .mbc3 .postBoot ∧ ¬ (Mbc3.postBoot.latchPrev = 0x00#8 ∧ 0x01#8 = 0x01#8) ∧
      (let r : Mbc3 := { Mbc3.postBoot with latchPrev := 0x00#8 }
      r.latchPrev = 0x00#8 ∧ 0x01#8 = 0x01#8) ∧
      Mbc3.postBoot.ramEnabled = false ∧ Mbc3.ramEnabled { Mbc3.postBoot with ramEnabled := true } = true ∧
      mbc3State.cart.ramSize ≠ 0 ∧ (0x03#8).toNat ≤ 0x03 ∧ 0x04 ≤ (0x04#8).toNat ∧ (0x07#8).toNat ≤ 0x07 ∧
      0x08 ≤ (0x08#8).toNat ∧ (0x0C#8).toNat ≤ 0x0C ∧ 0x0D ≤ (0x0D#8).toNat := by decide

theorem test_meets_TimaCountsOncePerPeriod :
    let t := (withTimer 0xFFFF#16 0xFE#8 0x00#8 0b101#3).timer
    t.tac.getLsbD 2 = true ∧ t.reloadDelay = 0 ∧ t.tima ≠ 0xFF#8 := by decide

theorem test_ppuAt_legal : (ppuAt 143#8 455 .hblank).Legal ∧ (ppuAt 143#8 251 .drawing).Legal :=
  ⟨⟨by decide, by decide, by decide, fun _ => ⟨by decide, rfl⟩, fun h => absurd h (by decide)⟩,
    ⟨by decide, by decide, by decide, fun _ => ⟨by decide, rfl⟩, fun h => absurd h (by decide)⟩⟩

theorem test_meets_PpuFollowsFrame :
    (withPpu (ppuAt 143#8 455 .hblank)).ppu.Legal ∧ (withPpu (ppuAt 143#8 455 .hblank)).ppu.lcdOn = true :=
  ⟨test_ppuAt_legal.1, by decide⟩

/-- The dot that enters Vblank, and one that does not. -/
theorem test_meets_PpuInterruptRequests :
    (ppuAt 143#8 455 .hblank).Legal ∧ (ppuAt 143#8 455 .hblank).lcdOn = true ∧
      (ppuAt 143#8 455 .hblank).entersVblank = true ∧ (ppuAt 143#8 251 .drawing).Legal ∧
      (ppuAt 143#8 251 .drawing).entersVblank = false :=
  ⟨test_ppuAt_legal.1, by decide, by decide, test_ppuAt_legal.2, by decide⟩

theorem test_meets_LcdSwitchAndOffDots :
    ready.ppu.lcdc.getLsbD 7 = true ∧ (0x11#8).getLsbD 7 = false ∧
      (ready.write 0xFF40#16 0x11#8).ppu.lcdc.getLsbD 7 = false ∧ (0x91#8).getLsbD 7 = true ∧
      ready.ppu.lcdc.getLsbD 7 = (0x80#8).getLsbD 7 := by decide

theorem test_meets_LineDrawnAtHblank :
    (let p := ppuAt 143#8 251 .drawing
    p.Legal ∧ p.lcdOn = true ∧ p.ly.toNat < 144 ∧ p.dot = 251 ∧ Store.wf (160 * 144) p.framebuffer = true ∧
      143 < 144 ∧ 159 < 160) ∧
    (let p := ppuAt 143#8 455 .hblank
    p.Legal ∧ p.lcdOn = true ∧ ¬ (p.ly.toNat < 144 ∧ p.dot = 251)) :=
  ⟨⟨test_ppuAt_legal.2, by decide, by decide, by decide, by decide, by decide, by decide⟩,
    ⟨test_ppuAt_legal.1, by decide, by decide⟩⟩

theorem test_meets_BackgroundAndWindowPixels : 0 < 160 ∧ 159 < 160 := by decide

/-- Sprites off; a kept sprite that wins at its last column and not one further, in front of the background and behind
a non-zero one; none. -/
theorem test_meets_SpriteSelectionAndPriority :
    Ppu.postBoot.lcdc.getLsbD 1 = false ∧
      (let p : Ppu := { Ppu.postBoot with lcdc := 0x93#8 }
      let oam : Memory := [(0, 16#8), (1, 8#8), (2, 0x01#8)]
      let front : Sprite := { y := 16, x := 8, tile := 0x01#8, attr := 0x00#8 }
      let behind : Sprite := { front with attr := 0x80#8 }
      front ∈ p.scanOam oam ∧ front.x ≤ 7 + 8 ∧ 7 + 8 < front.x + 8 ∧
        p.winningSprite [(16, 0xFF#8)] (p.scanOam oam) 7 = some (front, 1#2) ∧
        p.winningSprite [(16, 0xFF#8)] (p.scanOam oam) 8 = none ∧
        (p.backPixel [(16, 0xFF#8)] 7).getD 0#2 = 0#2 ∧ front.attr.getLsbD 7 = false ∧
        p.winningSprite [(0, 0x01#8), (16, 0xFF#8)] (p.scanOam (oam ++ [(3, 0x80#8)])) 7 = some (behind, 1#2) ∧
        (p.backPixel [(0, 0x01#8), (16, 0xFF#8)] 7).getD 0#2 ≠ 0#2 ∧ behind.attr.getLsbD 7 = true) := by
  refine ⟨by decide, ?_⟩
  decide +kernel

theorem test_meets_TicksOnlyRaiseRequests : State.reset.intFlag.getLsbD (0 : Fin 5) = true := by decide

theorem test_meets_LockedOrStoppedCoreRunsFrames :
    (lockedState.Inv ∧ lockedState.cpu.mode = .locked) ∧ (stoppedState.Inv ∧ stoppedState.cpu.mode = .stopped) :=
  ⟨⟨test_lockedState_inv, rfl⟩, ⟨test_stoppedState_inv, rfl⟩⟩

end Sys2Proof.Tests
end

/-!
PROOFS. The statements about the whole state: the values after construction (O40), construction from an image (O41), the
fault record (O36) and the invariant (O39).
-/
namespace Sys2Proof.Machine

/-! ### The values after construction -/

/-- R661: P1 reads with its two unused bits set. -/
theorem read_p1 (s : State) : s.read 0xFF00#16 = s.joypad.readP1 := rfl

/-- R60: SC reads with its six unused bits set. -/
theorem read_sc (s : State) : s.read 0xFF02#16 = s.serial.readSc := rfl

/-- R62: DIV reads as the high byte of the counter. -/
theorem read_div (s : State) : s.read 0xFF04#16 = highByte s.timer.divCounter := rfl

/-- R63: TAC reads with its five unused bits set. -/
theorem read_tac (s : State) : s.read 0xFF07#16 = 0b11111#5 ++ s.timer.tac := rfl

/-- R65: IF reads with its three unused bits set. -/
theorem read_intFlag (s : State) : s.read 0xFF0F#16 = 0b111#3 ++ s.intFlag := rfl

/-- R65: IE reads with its three unused bits set. -/
theorem read_intEnable (s : State) : s.read 0xFFFF#16 = 0b111#3 ++ s.intEnable := rfl

/-- Settles O40: the state is a record of literals, and each register's reading is one equation of the bus. -/
theorem resetValues : Obligations.ResetValues := by
  intro cart ram mode s
  have hf : s.flags.toByte = 0xB0#8 := (by decide : Flags.toByte ⟨true, false, true, true⟩ = 0xB0#8)
  have hp1 : s.read 0xFF00#16 = 0xCF#8 :=
    (read_p1 s).trans (by decide : Joypad.readP1 ⟨false, false, 0x00#8⟩ = 0xCF#8)
  have hsc : s.read 0xFF02#16 = 0x7E#8 :=
    (read_sc s).trans (by decide : Serial.readSc ⟨0x00#8, false, false⟩ = 0x7E#8)
  have hdiv : s.read 0xFF04#16 = 0xAB#8 := (read_div s).trans (by decide : highByte 0xABCC#16 = 0xAB#8)
  have htac : s.read 0xFF07#16 = 0xF8#8 := (read_tac s).trans (by decide : 0b11111#5 ++ 0#3 = 0xF8#8)
  have hif : s.read 0xFF0F#16 = 0xE1#8 := (read_intFlag s).trans (by decide : 0b111#3 ++ 0x01#5 = 0xE1#8)
  have hie : s.read 0xFFFF#16 = 0xE0#8 := (read_intEnable s).trans (by decide : 0b111#3 ++ 0x00#5 = 0xE0#8)
  exact ⟨⟨rfl, hf, rfl, rfl, rfl, rfl, rfl, rfl⟩, ⟨rfl, rfl, rfl, rfl, rfl, rfl⟩, ⟨rfl, rfl, rfl, rfl, rfl⟩,
    ⟨rfl, rfl, hp1, rfl⟩, ⟨rfl, hsc⟩, ⟨rfl, hdiv, rfl, rfl, htac, rfl⟩, ⟨hif, hie⟩,
    ⟨rfl, rfl, rfl, rfl, rfl, rfl, rfl, rfl, rfl, rfl, rfl, rfl⟩, ⟨rfl, rfl, rfl, rfl, rfl, rfl, fun _ _ => rfl⟩, rfl⟩

/-! ### Construction from an image -/

/-- R202, R74: the mapper a known cartridge type byte names. -/
def mapperOfKnownType (n : Nat) : Mapper :=
  if n = 0x00 then .romOnly else if n ≤ 0x03 then .mbc1 .postBoot else .mbc3 .postBoot

/-- R202: the known cartridge type bytes, each with its mapper. -/
theorem mapperOfType_eq (v : Byte) :
    mapperOfType v =
      if v.toNat ∈ [0x00, 0x01, 0x02, 0x03, 0x0F, 0x10, 0x11, 0x12, 0x13] then some (mapperOfKnownType v.toNat)
      else none := by
  unfold mapperOfType
  generalize v.toNat = n
  split
  case h_10 => rw [if_neg (by simp_all)]
  all_goals rfl

/-- R203: the known ROM size bytes, each with its bank count. -/
theorem romBanksOfSize_eq (v : Byte) :
    romBanksOfSize v = if v.toNat ≤ 0x08 then some (2 * 2 ^ v.toNat) else none := by
  rw [romBanksOfSize, Nat.shiftLeft_eq]

/-- R204: the known RAM size bytes, each with its size. -/
theorem ramSizeOfSize_eq (v : Byte) :
    ramSizeOfSize v =
      if v.toNat ≤ 0x05 then some ([0, 2048, 8192, 32768, 131072, 65536].getD v.toNat 0) else none := by
  unfold ramSizeOfSize
  generalize v.toNat = n
  split
  case h_7 h0 h1 h2 h3 h4 h5 =>
    have hn : ¬ n ≤ 0x05 := by simp only [imp_false] at h0 h1 h2 h3 h4 h5; omega
    rw [if_neg hn]
  all_goals rfl

/-- R202, R205: of the known type bytes, 0x00 alone is ROM-only. -/
theorem mapperOfKnownType_eq_romOnly (n : Nat) : mapperOfKnownType n = .romOnly ↔ n = 0x00 := by
  unfold mapperOfKnownType
  split_ifs <;> simp_all

/-- R205: an image is consistent with its header when its length is that of its banks, two for ROM-only. -/
theorem imageConsistent_iff (m : Mapper) (romBanks length : Nat) :
    imageConsistent m romBanks length = true ↔
      length = romBanks * Config.romBankBytes ∧ (m = .romOnly → romBanks = 2) := by
  simp only [imageConsistent, Bool.and_eq_true, Bool.or_eq_true, decide_eq_true_eq, ne_eq, imp_iff_not_or]

/-- R205: an image is well formed when its header bytes are known, its length is that of its banks, and a ROM-only one
has two. -/
structure WellFormedImage (image : List Byte) : Prop where
  length : 0x150 ≤ image.length
  typeByte : (image.getD 0x0147 0#8).toNat ∈ [0x00, 0x01, 0x02, 0x03, 0x0F, 0x10, 0x11, 0x12, 0x13]
  romByte : (image.getD 0x0148 0#8).toNat ≤ 0x08
  ramByte : (image.getD 0x0149 0#8).toNat ≤ 0x05
  banks : image.length = 2 * 2 ^ (image.getD 0x0148 0#8).toNat * 16384
  romOnly : (image.getD 0x0147 0#8).toNat = 0x00 → (image.getD 0x0148 0#8).toNat = 0

/-- R201 to R204, R75: the cartridge of an image and of optional cartridge RAM bytes. -/
def cartOfWellFormed (image : List Byte) (sramBytes : Option (List Byte)) : Cart :=
  let ramSize := [0, 2048, 8192, 32768, 131072, 65536].getD (image.getD 0x0149 0#8).toNat 0
  { romBanks := 2 * 2 ^ (image.getD 0x0148 0#8).toNat
    ramSize := ramSize
    mapper := mapperOfKnownType (image.getD 0x0147 0#8).toNat
    rom := Store.ofListFrom 0 image
    sram := Store.ofListFrom 0 ((sramBytes.getD []).take ramSize) }

/-- R205: construction accepts a well-formed image. -/
theorem ofImage_of_wellFormed {image : List Byte} (h : WellFormedImage image) (sramBytes : Option (List Byte)) :
    Cart.ofImage image sramBytes = some (cartOfWellFormed image sramBytes) := by
  have hc : imageConsistent (mapperOfKnownType (image.getD 0x0147 0#8).toNat)
      (2 * 2 ^ (image.getD 0x0148 0#8).toNat) image.length = true := by
    refine (imageConsistent_iff _ _ _).2 ⟨h.banks, fun hm => ?_⟩
    rw [h.romOnly ((mapperOfKnownType_eq_romOnly _).1 hm)]
    rfl
  unfold Cart.ofImage
  rw [if_neg (not_lt.2 h.length), mapperOfType_eq, if_pos h.typeByte, romBanksOfSize_eq, if_pos h.romByte,
    ramSizeOfSize_eq, if_pos h.ramByte]
  exact if_pos hc

/-- R205: an image that construction accepts is well formed. -/
theorem wellFormed_of_ofImage {image : List Byte} {sramBytes : Option (List Byte)} {c : Cart}
    (h : Cart.ofImage image sramBytes = some c) : WellFormedImage image := by
  unfold Cart.ofImage at h
  split at h
  case isTrue => cases h
  case isFalse hlen =>
    split at h
    case h_2 => cases h
    case h_1 m b r hm hb hr =>
      split at h
      case isFalse => cases h
      case isTrue hc =>
        rw [mapperOfType_eq, Option.ite_none_right_eq_some, Option.some.injEq] at hm
        rw [romBanksOfSize_eq, Option.ite_none_right_eq_some, Option.some.injEq] at hb
        rw [ramSizeOfSize_eq, Option.ite_none_right_eq_some] at hr
        obtain ⟨htype, rfl⟩ := hm
        obtain ⟨hrom, rfl⟩ := hb
        obtain ⟨hbanks, htwo⟩ := (imageConsistent_iff _ _ _).1 hc
        refine ⟨not_lt.1 hlen, htype, hrom, hr.1, hbanks, fun h0 => ?_⟩
        simpa using htwo ((mapperOfKnownType_eq_romOnly _).2 h0)

/-- R205: the reasons for which construction rejects an image. -/
theorem not_wellFormedImage_iff (image : List Byte) :
    ¬ WellFormedImage image ↔
      image.length < 0x150 ∨
        (image.getD 0x0147 0#8).toNat ∉ [0x00, 0x01, 0x02, 0x03, 0x0F, 0x10, 0x11, 0x12, 0x13] ∨
        (image.getD 0x0148 0#8).toNat > 0x08 ∨ (image.getD 0x0149 0#8).toNat > 0x05 ∨
        image.length ≠ 2 * 2 ^ (image.getD 0x0148 0#8).toNat * 16384 ∨
        ((image.getD 0x0147 0#8).toNat = 0x00 ∧ (image.getD 0x0148 0#8).toNat ≠ 0) := by
  rw [not_iff_comm]
  push Not
  constructor <;> rintro ⟨h0, h1, h2, h3, h4, h5⟩ <;> exact ⟨h0, h1, h2, h3, h4, h5⟩

/-- R75, R230: the snapshot of a cartridge whose RAM was filled from a list is the list, cut or padded with zeros. -/
theorem sramSnapshot_of_take (c : Cart) (bytes : List Byte) (h : c.sram = Store.ofListFrom 0 (bytes.take c.ramSize)) :
    c.sramSnapshot = (List.range c.ramSize).map (fun k => bytes.getD k 0#8) := by
  refine List.map_congr_left fun k hk => ?_
  rw [h, store_read_ofList, List.getD_eq_getElem?_getD, List.getD_eq_getElem?_getD,
    List.getElem?_take_of_lt (List.mem_range.1 hk)]

/-- Settles O41: construction accepts exactly the well-formed images. -/
theorem constructionFromImage : Obligations.ConstructionFromImage := by
  intro image sramBytes ram mode typeByte romByte ramByte malformed
  have hbad : malformed ↔ ¬ WellFormedImage image := (not_wellFormedImage_iff image).symm
  constructor
  · intro h
    have hnone : Cart.ofImage image sramBytes = none :=
      Option.eq_none_iff_forall_ne_some.2 fun c hc => hbad.1 h (wellFormed_of_ofImage hc)
    rw [new, hnone]
  · intro h
    have hok := ofImage_of_wellFormed (not_not.1 (mt hbad.2 h)) sramBytes
    refine ⟨cartOfWellFormed image sramBytes, by rw [new, hok], rfl, rfl, rfl, store_read_ofList image, ?_⟩
    exact sramSnapshot_of_take _ (sramBytes.getD []) rfl

/-! ### The bytes that decode to ILLEGAL -/

section
variable (x : Byte)

@[simp] theorem ldReg_ne_illegal (r q : Reg8) : Instr.ldReg r q ≠ .illegal x := by cases r <;> cases q <;> nofun
@[simp] theorem ldImm_ne_illegal (r : Reg8) (n : Byte) : Instr.ldImm r n ≠ .illegal x := by cases r <;> nofun
@[simp] theorem ldFromHL_ne_illegal (r : Reg8) : Instr.ldFromHL r ≠ .illegal x := by cases r <;> nofun
@[simp] theorem ldToHL_ne_illegal (r : Reg8) : Instr.ldToHL r ≠ .illegal x := by cases r <;> nofun
@[simp] theorem alu_ne_illegal (o : AluOp) (r : Reg8) : Instr.alu o r ≠ .illegal x := by cases o <;> cases r <;> nofun
@[simp] theorem aluHL_ne_illegal (o : AluOp) : Instr.aluHL o ≠ .illegal x := by cases o <;> nofun
@[simp] theorem aluImm_ne_illegal (o : AluOp) (n : Byte) : Instr.aluImm o n ≠ .illegal x := by cases o <;> nofun
@[simp] theorem incReg_ne_illegal (r : Reg8) : Instr.incReg r ≠ .illegal x := by cases r <;> nofun
@[simp] theorem decReg_ne_illegal (r : Reg8) : Instr.decReg r ≠ .illegal x := by cases r <;> nofun
@[simp] theorem shiftReg_ne_illegal (k : ShiftOp) (r : Reg8) : Instr.shiftReg k r ≠ .illegal x := by
  cases k <;> cases r <;> nofun
@[simp] theorem shiftHL_ne_illegal (k : ShiftOp) : Instr.shiftHL k ≠ .illegal x := by cases k <;> nofun
@[simp] theorem bitReg_ne_illegal (b : Fin 8) (r : Reg8) : Instr.bitReg b r ≠ .illegal x := by
  fin_cases b <;> cases r <;> nofun
@[simp] theorem bitHL_ne_illegal (b : Fin 8) : Instr.bitHL b ≠ .illegal x := by fin_cases b <;> nofun
@[simp] theorem resReg_ne_illegal (b : Fin 8) (r : Reg8) : Instr.resReg b r ≠ .illegal x := by
  fin_cases b <;> cases r <;> nofun
@[simp] theorem resHL_ne_illegal (b : Fin 8) : Instr.resHL b ≠ .illegal x := by fin_cases b <;> nofun
@[simp] theorem setReg_ne_illegal (b : Fin 8) (r : Reg8) : Instr.setReg b r ≠ .illegal x := by
  fin_cases b <;> cases r <;> nofun
@[simp] theorem setHL_ne_illegal (b : Fin 8) : Instr.setHL b ≠ .illegal x := by fin_cases b <;> nofun
@[simp] theorem ld16_ne_illegal (rr : Reg16) (nn : Word) : Instr.ld16 rr nn ≠ .illegal x := by cases rr <;> nofun
@[simp] theorem addHL_ne_illegal (rr : Reg16) : Instr.addHL rr ≠ .illegal x := by cases rr <;> nofun
@[simp] theorem inc16_ne_illegal (rr : Reg16) : Instr.inc16 rr ≠ .illegal x := by cases rr <;> nofun
@[simp] theorem dec16_ne_illegal (rr : Reg16) : Instr.dec16 rr ≠ .illegal x := by cases rr <;> nofun
@[simp] theorem jpCond_ne_illegal (cc : Cond) (nn : Word) : Instr.jpCond cc nn ≠ .illegal x := by cases cc <;> nofun
@[simp] theorem jrCond_ne_illegal (cc : Cond) (e : Byte) : Instr.jrCond cc e ≠ .illegal x := by cases cc <;> nofun
@[simp] theorem callCond_ne_illegal (cc : Cond) (nn : Word) : Instr.callCond cc nn ≠ .illegal x := by
  cases cc <;> nofun
@[simp] theorem retCond_ne_illegal (cc : Cond) : Instr.retCond cc ≠ .illegal x := by cases cc <;> nofun
@[simp] theorem rst_ne_illegal (t : Fin 8) : Instr.rst t ≠ .illegal x := by fin_cases t <;> nofun

end

/-- R258, x = 0: no byte of the irregular block is ILLEGAL. -/
theorem decodeBlock0_ne_illegal (op n x : Byte) (nn : Word) : decodeBlock0 op n nn ≠ .illegal x := by
  unfold decodeBlock0
  split <;> split <;> simp

/-- R258, x = 1: no LD r,r' is ILLEGAL, nor is HALT. -/
theorem decodeBlock1_ne_illegal (op x : Byte) : decodeBlock1 op ≠ .illegal x := by
  unfold decodeBlock1
  split <;> simp

/-- R258, x = 2: no ALU operation is ILLEGAL. -/
theorem decodeBlock2_ne_illegal (op x : Byte) : decodeBlock2 op ≠ .illegal x := by
  unfold decodeBlock2
  split <;> simp

/-- R259: no instruction of the CB page is ILLEGAL. -/
theorem decodeCB_ne_illegal (op x : Byte) : decodeCB op ≠ .illegal x := by
  unfold decodeCB
  split <;> simp

/-- R258, R260: the fields (z, y) of the opcodes with x = 3 that decode to ILLEGAL; (3, 1) is 0xCB
(R261). -/
def illegalFields : List (Fin 8 × Fin 8) :=
  [(3, 1), (3, 2), (3, 3), (3, 4), (3, 5), (4, 4), (4, 5), (4, 6), (4, 7), (5, 3), (5, 5), (5, 7)]

/-- R260: an ILLEGAL of the last block carries its opcode, which has the fields of one. -/
theorem decodeBlock3_illegal {op n x : Byte} {nn : Word} (h : decodeBlock3 op n nn = .illegal x) :
    x = op ∧ (fieldZ op, fieldY op) ∈ illegalFields := by
  unfold decodeBlock3 at h
  split at h
  case h_7 => exact absurd h (aluImm_ne_illegal x _ n)
  case h_8 => exact absurd h (rst_ne_illegal x _)
  all_goals split at h <;> simp_all [illegalFields]

/-- R260, R261: the bytes with these fields are the unassigned ones and 0xCB. -/
theorem unassigned_of_fields : ∀ op : Byte, op ≠ 0xCB#8 → 3 ≤ (op.extractLsb' 6 2).toNat →
    (fieldZ op, fieldY op) ∈ illegalFields → op ∈ unassignedOpcodes := by decide

/-- R260: what decodes to ILLEGAL is an unassigned opcode, which the instruction carries. -/
theorem decodeBytes_illegal {op b1 b2 x : Byte} (h : decodeBytes op b1 b2 = .illegal x) :
    x = op ∧ op ∈ unassignedOpcodes := by
  unfold decodeBytes at h
  split at h
  case isTrue => exact absurd h (decodeCB_ne_illegal b1 x)
  case isFalse hcb =>
    unfold decodePrimary at h
    split at h
    case h_1 => exact absurd h (decodeBlock0_ne_illegal op b1 x _)
    case h_2 => exact absurd h (decodeBlock1_ne_illegal op x)
    case h_3 => exact absurd h (decodeBlock2_ne_illegal op x)
    case h_4 h0 h1 h2 =>
      have h3 : 3 ≤ (op.extractLsb' 6 2).toNat := by simp only [imp_false] at h0 h1 h2; omega
      obtain ⟨hx, hf⟩ := decodeBlock3_illegal h
      exact ⟨hx, unassigned_of_fields op hcb h3 hf⟩

/-- R250, R260: an unassigned opcode is one byte long. -/
theorem opcodeLength_unassigned : ∀ op ∈ unassignedOpcodes, opcodeLength op = 1 := by decide

/-! ### The state an instruction runs on -/

section
variable (s : State)

@[simp] theorem matureEi_pc : s.matureEi.pc = s.pc := by rw [matureEi_eq]; rfl
@[simp] theorem matureEi_illegalMode : s.matureEi.illegalMode = s.illegalMode := by rw [matureEi_eq]
@[simp] theorem matureEi_read (a : Word) : s.matureEi.read a = s.read a := by rw [matureEi_eq]; rfl

/-- R530: the state that the fetched instruction runs on: the EI latch counted, the CPU running, PC past the
instruction. -/
def State.fetched : State := s.matureEi.wake.pastInstr

@[simp] theorem fetched_mode : s.fetched.cpu.mode = .running := rfl
@[simp] theorem fetched_faultRecord : s.fetched.cpu.faultRecord = s.cpu.faultRecord := matureEi_faultRecord s
@[simp] theorem fetched_illegalMode : s.fetched.illegalMode = s.illegalMode := matureEi_illegalMode s

/-- R53: PC stands past the opcode at the old PC. -/
theorem fetched_pc : s.fetched.pc = s.pc + BitVec.ofNat 16 (opcodeLength (s.read s.pc)) := by
  rw [← matureEi_pc s, ← matureEi_read s]; rfl

/-- R166: the fetched instruction is decoded from the bytes at PC, which the EI latch does not change. -/
theorem instrAtPc_wake_matureEi :
    s.matureEi.wake.instrAtPc =
      decodeBytes (s.read s.pc) (s.read (s.pc + 1#16)) (s.read (s.pc + 2#16)) := by
  rw [← matureEi_pc s, ← matureEi_read s, ← matureEi_read s, ← matureEi_read s]; rfl

/-- R532: the CPU after an interrupt entry; its mode and its fault record are as before. -/
theorem service_cpu (i : Interrupt) :
    (s.service i).cpu = { s.cpu with sp := s.sp - 2#16, ime := false, eiDelay := 0, pc := i.vector } := by
  have h : (s.service i).cpu = { (s.push16 s.pc).cpu with ime := false, eiDelay := 0, pc := i.vector } := rfl
  rw [h, push16_cpu]

/-- R520: an ILLEGAL decoded at PC carries the unassigned byte there, and the record's PC - 1 is that byte's address. -/
theorem illegal_at_pc {op : Byte} (h : s.matureEi.wake.instrAtPc = .illegal op) :
    op = s.read s.pc ∧ s.read s.pc ∈ unassignedOpcodes ∧ s.fetched.pc - 1#16 = s.pc := by
  rw [instrAtPc_wake_matureEi] at h
  obtain ⟨hop, hu⟩ := decodeBytes_illegal h
  refine ⟨hop, hu, ?_⟩
  rw [fetched_pc, opcodeLength_unassigned _ hu]
  exact BitVec.add_sub_cancel _ _

end

/-- R78, R520: what a CPU step does to the fault record. -/
theorem StepCases.faultRecord {s t : State} (h : StepCases s t) :
    t.cpu.faultRecord = s.cpu.faultRecord ∨
      (s.illegalMode = .lock ∧ (s.cpu.mode = .running ∨ s.cpu.mode = .halted) ∧
        s.read s.pc ∈ unassignedOpcodes ∧ t.cpu.mode = .locked ∧
        t.cpu.faultRecord = some { pc := s.pc, op := s.read s.pc }) := by
  cases h with
  | idle exit ht => subst ht; exact .inl (matureEi_faultRecord s)
  | service i hm ht =>
    subst ht
    rw [returns_cpu, service_cpu]
    exact .inl (matureEi_faultRecord s)
  | run u hm hu ht =>
    subst ht
    cases hu with
    | ordinary h => exact .inl (h.faultRecord.trans (fetched_faultRecord s))
    | illegal op hi hl ht =>
      subst ht
      obtain ⟨hop, hu, hpc⟩ := illegal_at_pc s hi
      refine .inr ⟨(fetched_illegalMode s).symm.trans hl, hm, hu, rfl, ?_⟩
      rw [← hop, ← hpc]; rfl

/-- Settles O36: by the forms of a step; the devices' ticks leave the CPU alone. -/
theorem faultRecordOnlyByUnassignedOpcode : Obligations.FaultRecordOnlyByUnassignedOpcode := by
  intro s
  obtain ⟨t, hstep, hcases⟩ := step_cases s
  refine ⟨_, hstep, ?_⟩
  rw [tickN_cpu]
  exact hcases.faultRecord

/-! ### The invariant -/

/-- R78, R520: a CPU with no fault recorded that is not locked has a legal control state. -/
theorem legalControl_of_no_fault {t : State} (he : t.cpu.eiDelay ≤ 2) (hm : t.cpu.mode ≠ .locked)
    (hf : t.cpu.faultRecord = none) : t.LegalControl :=
  ⟨he, ⟨fun h => absurd h hm, fun h => absurd hf h⟩, fun _ h => h hf⟩

/-- R78, R520: a CPU that is not locked has no fault recorded. -/
theorem no_fault_of_not_locked {s : State} (h : s.LegalControl) (hm : s.cpu.mode ≠ .locked) :
    s.cpu.faultRecord = none :=
  not_not.1 (mt h.locked.2 hm)

/-- The writes of an instruction keep the invariant. -/
theorem BusWrites.inv {s u : State} (h : BusWrites s u) (hs : s.Inv) : u.Inv := by
  cases h with
  | none => exact hs
  | one a v => exact write_inv s a v hs
  | two a1 v1 a2 v2 => exact write_inv _ a2 v2 (write_inv s a1 v1 hs)

/-- A state that differs from another in the CPU and the host's side is that other one outside them. -/
theorem SameOutside.eq {u t : State} (h : SameOutside u t) : t = { u with cpu := t.cpu, host := t.host } := by
  unfold SameOutside at h
  rw [← h]

/-- An instruction that runs on a CPU with no fault recorded keeps the invariant. -/
theorem ExecEffect.inv {i : Instr} {s t : State} (h : ExecEffect i s t) (hs : s.Inv) (hm : s.cpu.mode = .running) :
    t.Inv := by
  have hf := no_fault_of_not_locked hs.control (by rw [hm]; nofun)
  cases h with
  | ordinary h =>
    obtain ⟨u, hw, ho⟩ := h.outside
    refine inv_withCpu ho.eq (hw.inv hs) (legalControl_of_no_fault ?_ ?_ (h.faultRecord.trans hf))
    · have := hs.control.eiDelay
      rcases h.eiDelay with e | ⟨-, e⟩ | ⟨-, -, e⟩ <;> omega
    · rcases h.mode with e | ⟨-, e⟩ | ⟨_, -, e⟩ <;> simp [e, hm]
  | illegal op hi hl ht =>
    subst ht
    refine inv_withCpu (u := s) rfl hs ⟨hs.control.eiDelay, ⟨fun _ => nofun, fun _ => rfl⟩, fun hn => ?_⟩
    exact absurd (hl.symm.trans hn) (by decide)

/-- What changes the CPU and the host's side, but not the CPU's control state, keeps the invariant. -/
theorem inv_of_sameControl {s t : State} (h : t = { s with cpu := t.cpu, host := t.host }) (hc : SameControl s t)
    (hs : s.Inv) : t.Inv := by
  obtain ⟨he, hl, hn⟩ := hs.control
  refine inv_withCpu h hs ⟨hc.eiDelay.trans_le he, ?_, ?_⟩
  · rw [State.faulted, hc.mode, hc.faultRecord]; exact hl
  · rw [State.faulted, hc.faultRecord, h]; exact hn

/-- R530: the EI latch keeps the invariant. -/
theorem matureEi_inv {s : State} (hs : s.Inv) : s.matureEi.Inv := by
  obtain ⟨he, hl, hn⟩ := hs.control
  rw [matureEi_eq]
  exact inv_withCpu (u := s) rfl hs ⟨(Nat.sub_le _ 1).trans he, hl, hn⟩

/-- R530: a CPU that is not locked keeps the invariant when it leaves halt. -/
theorem wake_inv {s : State} (hs : s.Inv) (hm : s.cpu.mode ≠ .locked) : s.wake.Inv := by
  have hf : s.wake.cpu.faultRecord = none := no_fault_of_not_locked (s := s) hs.control hm
  exact inv_withCpu (u := s) rfl hs (legalControl_of_no_fault hs.control.eiDelay nofun hf)

/-- R532: interrupt entry keeps the invariant: it pushes PC and clears the EI latch. -/
theorem service_inv {s : State} (hs : s.Inv) (i : Interrupt) : (s.service i).Inv := by
  have hpush := push16_inv s s.pc hs
  unfold State.service
  generalize s.push16 s.pc = u at hpush
  obtain ⟨hm, hc, hl, ht, hp⟩ := hpush
  exact ⟨⟨hm.1, hm.2, hm.3, hm.4, hm.5, hm.6, hm.7⟩, hc, ⟨Nat.zero_le 2, hl.locked, hl.nop⟩, ht, hp⟩

/-- Every form of a CPU step keeps the invariant. -/
theorem StepCases.inv {s t : State} (h : StepCases s t) (hs : s.Inv) : t.Inv := by
  have he := matureEi_inv hs
  have awake : s.cpu.mode = .running ∨ s.cpu.mode = .halted → s.matureEi.wake.Inv := fun hm =>
    wake_inv he (by rw [matureEi_mode]; rcases hm with hm | hm <;> rw [hm] <;> nofun)
  cases h with
  | idle exit ht =>
    subst ht
    exact inv_of_sameControl (s := s.matureEi) rfl ⟨rfl, rfl, rfl, rfl⟩ he
  | service i hm ht =>
    subst ht
    exact inv_of_sameControl (s := s.matureEi.wake.service i) rfl ⟨rfl, rfl, rfl, rfl⟩ (service_inv (awake hm) i)
  | run u hm hu ht =>
    subst ht
    have hf : s.fetched.Inv :=
      inv_of_sameControl (s := s.matureEi.wake) rfl ⟨rfl, rfl, rfl, rfl⟩ (awake hm)
    exact inv_of_sameControl (s := u) rfl ⟨rfl, rfl, rfl, rfl⟩ (hu.inv hf (fetched_mode s))

/-- Settles O39: by the forms of a CPU step, and then by induction on the devices' ticks. -/
theorem invariantKeptByStep : Obligations.InvariantKeptByStep := by
  intro s t hs ht
  obtain ⟨u, hu, hcases⟩ := step_cases s
  obtain rfl : State.tickN u.host.cycles u = t := Host.Outcome.next.inj (hu.symm.trans ht)
  exact tickN_inv u _ (hcases.inv hs)

end Sys2Proof.Machine

/-!
PROOFS. The statements about memory: what no step changes (O37), the address decoder (O42), and what a bus write does to
later reads: the addresses it reaches (O44), RAM with its echo and repeats (O45), and the OAM copy (O46).
-/
namespace Sys2Proof.Machine

/-! ### The configuration and the ROM -/

/-- What changes the CPU and the host's side only keeps the configuration and the ROM. -/
theorem sameConfig_withCpuHost (s : State) (c : Cpu) (h : HostSide) : SameConfig s { s with cpu := c, host := h } :=
  ⟨rfl, rfl, rfl, rfl, rfl⟩

/-- R152, R77: the writes of an instruction keep the configuration and the ROM. -/
theorem BusWrites.sameConfig {s u : State} (h : BusWrites s u) : SameConfig s u := by
  cases h with
  | none => exact sameConfig_refl s
  | one a v => exact write_sameConfig s a v
  | two a1 v1 a2 v2 => exact (write_sameConfig s a1 v1).trans (write_sameConfig _ a2 v2)

/-- R152, R77: so does what then changes the CPU and the returned count only. -/
theorem BusWrites.sameConfig_outside {s u t : State} (h : BusWrites s u) (ho : SameOutside u t) : SameConfig s t := by
  rw [ho.eq]
  exact h.sameConfig.trans (sameConfig_withCpuHost u _ _)

/-- R152, R77: so does an instruction. -/
theorem ExecEffect.sameConfig {i : Instr} {s t : State} (h : ExecEffect i s t) : SameConfig s t := by
  cases h with
  | ordinary h =>
    obtain ⟨u, hw, ho⟩ := h.outside
    exact hw.sameConfig_outside ho
  | illegal op hi hl ht => subst ht; exact sameConfig_withCpuHost s _ _

/-- R152, R77: so does the EI latch. -/
theorem matureEi_sameConfig (s : State) : SameConfig s s.matureEi := by
  rw [matureEi_eq]
  exact sameConfig_withCpuHost s _ _

/-- R152, R77: so does an interrupt entry, which pushes PC. -/
theorem service_sameConfig (s : State) (i : Interrupt) : SameConfig s (s.service i) := by
  obtain ⟨u, hw, ho⟩ := push16_writes s s.pc
  have hp := hw.sameConfig_outside ho
  unfold State.service
  generalize s.push16 s.pc = t at hp
  exact hp.trans ⟨rfl, rfl, rfl, rfl, rfl⟩

/-- R152, R77: every form of a CPU step keeps the configuration and the ROM. -/
theorem StepCases.sameConfig {s t : State} (h : StepCases s t) : SameConfig s t := by
  have awake : SameConfig s s.matureEi.wake := (matureEi_sameConfig s).trans (sameConfig_withCpuHost _ _ _)
  cases h with
  | idle exit ht => subst ht; exact (matureEi_sameConfig s).trans (sameConfig_withCpuHost _ _ _)
  | service i hm ht =>
    subst ht
    exact (awake.trans (service_sameConfig _ i)).trans (sameConfig_withCpuHost _ _ _)
  | run u hm hu ht =>
    subst ht
    have fetched : SameConfig s s.matureEi.wake.pastInstr := awake.trans (sameConfig_withCpuHost _ _ _)
    exact (fetched.trans hu.sameConfig).trans (sameConfig_withCpuHost u _ _)

/-- Settles O37: by the forms of a CPU step; the devices' ticks write no part of the cartridge. -/
theorem configurationAndRomKept : Obligations.ConfigurationAndRomKept := by
  intro s t ht
  obtain ⟨u, hu, hcases⟩ := step_cases s
  obtain rfl : State.tickN u.host.cycles u = t := Host.Outcome.next.inj (hu.symm.trans ht)
  exact hcases.sameConfig.trans (tickN_sameConfig u _)

/-! ### The address decoder -/

section
variable {a : Word}

theorem regionOf_cartRom (h : a.toNat < 0x8000) : regionOf a = .cartRom a := by
  simp (disch := omega) only [regionOf, if_pos]

theorem regionOf_vram (h : 0x8000 ≤ a.toNat) (h' : a.toNat < 0xA000) : regionOf a = .vram (a.toNat - 0x8000) := by
  simp (disch := omega) only [regionOf, if_neg, if_pos]

theorem regionOf_cartRam (h : 0xA000 ≤ a.toNat) (h' : a.toNat < 0xC000) : regionOf a = .cartRam a := by
  simp (disch := omega) only [regionOf, if_neg, if_pos]

theorem regionOf_wram (h : 0xC000 ≤ a.toNat) (h' : a.toNat < 0xE000) : regionOf a = .wram (a.toNat - 0xC000) := by
  simp (disch := omega) only [regionOf, if_neg, if_pos]

theorem regionOf_echo (h : 0xE000 ≤ a.toNat) (h' : a.toNat < 0xFE00) : regionOf a = .wram (a.toNat - 0xE000) := by
  simp (disch := omega) only [regionOf, if_neg, if_pos]

theorem regionOf_oam (h : 0xFE00 ≤ a.toNat) (h' : a.toNat < 0xFEA0) : regionOf a = .oam (a.toNat - 0xFE00) := by
  simp (disch := omega) only [regionOf, if_neg, if_pos]

theorem regionOf_prohibited (h : 0xFEA0 ≤ a.toNat) (h' : a.toNat < 0xFF00) : regionOf a = .prohibited := by
  simp (disch := omega) only [regionOf, if_neg, if_pos]

theorem regionOf_io (h : 0xFF00 ≤ a.toNat) (h' : a.toNat < 0xFF80) :
    regionOf a = .io (ioRegAt (a.toNat - 0xFF00)) := by
  have hoff : a.toNat % 0x100 = a.toNat - 0xFF00 := by omega
  simp (disch := omega) only [regionOf, if_neg, if_pos, hoff]

theorem regionOf_hram (h : 0xFF80 ≤ a.toNat) (h' : a.toNat < 0xFFFF) : regionOf a = .hram (a.toNat - 0xFF80) := by
  simp (disch := omega) only [regionOf, if_neg, if_pos]

theorem regionOf_intEnable (h : a.toNat = 0xFFFF) : regionOf a = .intEnable := by
  simp (disch := omega) only [regionOf, if_neg]

/-- R151: a read and a write act on the region of their address. -/
theorem access_of_region {g : Region} (h : regionOf a = g) (s : State) (v : Byte) :
    s.read a = s.readRegion g ∧ s.write a v = s.writeRegion g v := by
  subst h
  exact ⟨rfl, rfl⟩

end

/-- R65: five stored bits below three unused bits that read 1. -/
theorem toNat_unusedHigh (x : BitVec 5) : (0b111#3 ++ x).toNat = 0xE0 + x.toNat := by
  rw [BitVec.toNat_append, Nat.shiftLeft_eq, mul_comm, ← Nat.two_pow_add_eq_or_of_lt x.isLt]
  rfl

/-- Settles O42: each range of addresses is one region. -/
theorem addressDecoder : Obligations.AddressDecoder := by
  intro s a v n
  refine ⟨fun h => access_of_region (regionOf_cartRom h) s v,
    fun h h' => access_of_region (regionOf_vram h h') s v,
    fun h h' => access_of_region (regionOf_cartRam h h') s v,
    fun h h' => access_of_region (regionOf_wram h h') s v,
    fun h h' => access_of_region (regionOf_echo h h') s v,
    fun h h' => access_of_region (regionOf_oam h h') s v,
    fun h h' => access_of_region (regionOf_prohibited h h') s v,
    fun h h' => access_of_region (regionOf_io h h') s v,
    fun h h' => access_of_region (regionOf_hram h h') s v, fun h => ?_⟩
  obtain ⟨hr, hw⟩ := access_of_region (regionOf_intEnable h) s v
  exact ⟨hr ▸ toNat_unusedHigh s.intEnable, hw⟩

/-! ### What a write reaches -/

/-- Settles O44: the table of write effects is met by every form of a bus write. -/
theorem busWriteReaches : Obligations.BusWriteReaches :=
  fun s a b v => ⟨write_cpu s a v, write_read_unreached s a b v, write_canonical s a v⟩

/-! ### RAM, its echo and its repeats -/

/-- R151: two addresses of one region read alike. -/
theorem read_congr {a b : Word} (h : regionOf a = regionOf b) (s : State) : s.read a = s.read b := by
  rw [State.read, h, State.read]

/-- R213, R215, R217: what a read of the RAM window returns depends on what its address reaches alone. -/
theorem readRam_congr {c : Cart} {a b : Word} (h : c.ramWindow a = c.ramWindow b) : c.readRam a = c.readRam b := by
  rw [Cart.readRam, h, Cart.readRam]

/-- R206: a write to the RAM window leaves what its addresses reach. -/
theorem writeCartRam_ramWindow (s : State) (a b : Word) (v : Byte) :
    (s.writeCartRam a v).cart.ramWindow b = s.cart.ramWindow b := by
  unfold State.writeCartRam
  split <;> rfl

/-- R206: after a write to the RAM window, two addresses of it that reach the same byte read alike. -/
theorem write_read_ramWindow (s : State) {a b x y : Word} (v : Byte) (ha : regionOf a = .cartRam x)
    (hb : regionOf b = .cartRam y) (h : s.cart.ramWindow y = s.cart.ramWindow x) :
    (s.write a v).read b = (s.write a v).read a := by
  have hw : s.write a v = s.writeCartRam x v := (access_of_region ha s v).2
  have hwin : (s.writeCartRam x v).cart.ramWindow y = (s.writeCartRam x v).cart.ramWindow x := by
    rw [writeCartRam_ramWindow, writeCartRam_ramWindow, h]
  rw [hw, State.read, hb, State.read, ha]
  exact readRam_congr hwin

/-- R155, R156, R206: an address that a write to RAM reaches reads like the written address. -/
theorem write_read_reached (s : State) {a b : Word} (v : Byte) (ha : s.isRam a = true)
    (hb : s.writeReaches a b = true) : (s.write a v).read b = (s.write a v).read a := by
  unfold State.isRam at ha
  unfold State.writeReaches at hb
  cases hr : regionOf a with
  | cartRam x =>
    simp only [hr] at ha hb
    split at hb
    case h_1 index y hx hy => exact write_read_ramWindow s v hr hy ((of_decide_eq_true hb).trans hx.symm)
    case h_2 => cases hb
  | vram off =>
    simp only [hr, decide_eq_true_eq] at hb
    exact read_congr (hb.trans hr.symm) _
  | wram off =>
    simp only [hr, decide_eq_true_eq] at hb
    exact read_congr (hb.trans hr.symm) _
  | oam off =>
    simp only [hr, decide_eq_true_eq] at hb
    exact read_congr (hb.trans hr.symm) _
  | hram off =>
    simp only [hr, decide_eq_true_eq] at hb
    exact read_congr (hb.trans hr.symm) _
  | _ => rw [hr] at ha; cases ha

/-- R206: the window of a 2 KiB RAM repeats every 2,048 bytes. -/
theorem ramWindow_repeats {c : Cart} {a b : Word} (hc : c.ramSize = 2048) (ha : 0xA000 ≤ a.toNat)
    (hb : 0xA000 ≤ b.toNat) (h : b.toNat % 2048 = a.toNat % 2048) : c.ramWindow b = c.ramWindow a := by
  have target (bank : Nat) : c.sramTarget bank (b.toNat - 0xA000) = c.sramTarget bank (a.toNat - 0xA000) := by
    have hi : c.sramIndex bank (b.toNat - 0xA000) = c.sramIndex bank (a.toNat - 0xA000) := by
      simp only [Cart.sramIndex, hc, Config.ramBankBytes]
      omega
    rw [Cart.sramTarget, hi, Cart.sramTarget]
  simp only [Cart.ramWindow, target]

/-- R156: an echo address is in the region of the address 0x2000 below. -/
theorem regionOf_echo_sub {a : Word} (h : 0xE000 ≤ a.toNat) (h' : a.toNat < 0xFE00) :
    regionOf a = regionOf (a - 0x2000#16) := by
  have hsub : (a - 0x2000#16).toNat = a.toNat - 0x2000 := by bv_omega
  rw [regionOf_echo h h', regionOf_wram (by omega) (by omega), hsub, Nat.sub_sub]

/-- Settles O45: an address that a write to RAM reaches is in the written region, or reaches the same byte of cartridge
RAM, as the repeats of a 2 KiB RAM do. -/
theorem ramReadsBackAndEcho : Obligations.RamReadsBackAndEcho := by
  intro s a v
  refine ⟨fun hs ha => ?_, fun h h' => access_of_region (regionOf_echo_sub h h') s v⟩
  have hread : (s.write a v).read a = v := write_read_ram s a v hs ha
  refine ⟨hread, fun b hb => (write_read_reached s v ha hb).trans hread, fun hc ha1 ha2 b hb1 hb2 hab => ?_⟩
  exact (write_read_ramWindow s v (regionOf_cartRam ha1 ha2) (regionOf_cartRam hb1 hb2)
    (ramWindow_repeats hc ha1 hb1 hab)).trans hread

/-! ### The OAM copy -/

/-- R170: the source addresses of the copy, as numbers. -/
theorem joinBytes_ofNat (v : Byte) {i : Nat} (hi : i < 256) :
    joinBytes v (BitVec.ofNat 8 i) = BitVec.ofNat 16 (256 * v.toNat + i) := by
  apply BitVec.eq_of_toNat_eq
  have hv := v.isLt
  have hlow : (BitVec.ofNat 8 i).toNat = i := Nat.mod_eq_of_lt hi
  rw [joinBytes, BitVec.toNat_append, hlow, Nat.shiftLeft_eq, mul_comm, ← Nat.two_pow_add_eq_or_of_lt hi,
    BitVec.toNat_ofNat]
  omega

/-- R170: a source address inside OAM is the address of the byte that the copy writes from it. -/
theorem dmaSource_oam (v : Byte) {i off : Nat} (hi : i < 160)
    (h : regionOf (BitVec.ofNat 16 (256 * v.toNat + i)) = .oam off) : off = i := by
  have hspec := regionOf_spec (BitVec.ofNat 16 (256 * v.toNat + i))
  rw [h] at hspec
  obtain ⟨hoff, hlt⟩ := hspec
  rw [BitVec.toNat_ofNat] at hoff hlt
  omega

/-- R151: a read sees OAM at an OAM address alone. -/
theorem read_withOam (s : State) (oam : Memory) (a : Word)
    (h : ∀ off, regionOf a = .oam off → Store.read oam off = Store.read s.oam off) :
    State.read { s with oam := oam } a = s.read a := by
  unfold State.read
  cases hr : regionOf a with
  | oam off => exact h off hr
  | io r => cases r <;> rfl
  | _ => rfl

/-- R170: OAM when the first `n` bytes have been copied: those hold their source bytes, read before the copy, and the
others what they held. A source byte in OAM is its own destination, so no copied byte is a source of a later one. -/
theorem dmaFold_oam (s : State) (v : Byte) (hs : Memory.wf Config.oamBytes s.oam = true) (n : Nat) (hn : n ≤ 160) :
    ∃ oam, (List.range n).foldl (State.dmaByte v) s = { s with oam := oam } ∧
      Memory.wf Config.oamBytes oam = true ∧
      ∀ i, Store.read oam i =
        if i < n then s.read (BitVec.ofNat 16 (256 * v.toNat + i)) else Store.read s.oam i := by
  induction n with
  | zero => exact ⟨s.oam, rfl, hs, fun i => rfl⟩
  | succ n ih =>
    obtain ⟨oam, hfold, hwf, hread⟩ := ih (by omega)
    have hsource : State.read { s with oam := oam } (BitVec.ofNat 16 (256 * v.toNat + n)) =
        s.read (BitVec.ofNat 16 (256 * v.toNat + n)) := by
      refine read_withOam s oam _ fun off hoff => ?_
      rw [hread, if_neg (by have := dmaSource_oam v hn hoff; omega)]
    refine ⟨Store.write oam n (s.read (BitVec.ofNat 16 (256 * v.toNat + n))), ?_, store_write_wf _ _ _ hn hwf, ?_⟩
    · rw [List.range_succ, List.foldl_append, hfold, List.foldl_cons, List.foldl_nil, State.dmaByte,
        joinBytes_ofNat v (by omega), hsource]
    · intro i
      obtain rfl | hne := eq_or_ne i n
      · rw [store_read_write_wf _ _ _ hwf, if_pos (Nat.lt_succ_self i)]
      · rw [store_read_write_other _ _ _ hne, hread]
        simp only [show i < n + 1 ↔ i < n by omega]

/-- R170: what a write to DMA makes of the bytes of OAM. -/
theorem writeDma_oam (s : State) (v : Byte) (hs : s.CanonicalMemory) {i : Nat} (hi : i < 160) :
    Store.read (s.writeDma v).oam i = State.read { s with dma := v } (BitVec.ofNat 16 (256 * v.toNat + i)) := by
  obtain ⟨oam, hfold, -, hread⟩ := dmaFold_oam { s with dma := v } v hs.oam 160 le_rfl
  have hw : s.writeDma v = { s with dma := v, oam := oam } := hfold
  rw [hw, hread i, if_pos hi]

/-- R157: a read of an OAM byte by its index. -/
theorem read_oam (s : State) {i : Nat} (hi : i < 160) :
    s.read (BitVec.ofNat 16 (0xFE00 + i)) = Store.read s.oam i := by
  have ha : (BitVec.ofNat 16 (0xFE00 + i)).toNat = 0xFE00 + i := Nat.mod_eq_of_lt (by omega)
  have hr : regionOf (BitVec.ofNat 16 (0xFE00 + i)) = .oam i := by
    rw [regionOf_oam (by omega) (by omega), ha, Nat.add_sub_cancel_left]
  rw [State.read, hr, State.readRegion]

/-- Settles O46: OAM after the copy, by induction on the number of bytes copied; nothing else is written but DMA. -/
theorem oamDmaCopies : Obligations.OamDmaCopies := by
  intro s v
  have ht : s.write 0xFF46#16 v = s.writeDma v := rfl
  obtain ⟨oam, hw⟩ := writeDma_eq s v
  rw [ht]
  refine ⟨?_, ?_, fun hs i hi => ?_⟩
  · rw [hw]; rfl
  · rw [hw]
  · rw [read_oam _ hi, writeDma_oam s v hs hi]

end Sys2Proof.Machine

/-!
PROOFS. The statements about the cartridge: the invariant at reset and of a constructed core (O38), ROM-only and MBC1
(O47), and MBC3 (O48).
-/
namespace Sys2Proof.Machine

/-! ### The invariant after construction -/

/-- R720: around a legal cartridge in canonical form, the state that construction builds meets the invariant exactly when
its `ram_init` is in canonical form. -/
theorem postBoot_inv_iff {cart : Cart} (hc : cart.Legal)
    (hrom : Memory.wf (cart.romBanks * Config.romBankBytes) cart.rom = true)
    (hsram : Memory.wf cart.ramSize cart.sram = true) (ram : RamInit) (mode : IllegalOpcodeMode) :
    (State.postBoot cart ram mode).Inv ↔
      Memory.wf 8192 ram.vram = true ∧ Memory.wf 8192 ram.wram = true ∧ Memory.wf 160 ram.oam = true ∧
        Memory.wf 127 ram.hram = true := by
  have control : (State.postBoot cart ram mode).LegalControl := legalControl_of_no_fault (Nat.zero_le 2) nofun rfl
  have ppu : (State.postBoot cart ram mode).ppu.Legal :=
    (⟨by decide, by decide, by decide, fun _ => ⟨by decide, rfl⟩, fun h => absurd h (by decide)⟩ : Ppu.postBoot.Legal)
  constructor
  · rintro ⟨hm, -, -, -, -⟩
    exact ⟨hm.vram, hm.wram, hm.oam, hm.hram⟩
  · rintro ⟨hv, hw, ho, hh⟩
    exact ⟨⟨hv, hw, ho, hh, hrom, hsram, rfl⟩, hc, control, Nat.zero_le 4, ppu⟩

/-- R203: the bank counts that the known ROM size bytes name. -/
theorem romBanks_legal : ∀ n ≤ 8, 2 * 2 ^ n ∈ [2, 4, 8, 16, 32, 64, 128, 256, 512] := by decide

/-- R204: the sizes that the known RAM size bytes name. -/
theorem ramSize_legal :
    ∀ n ≤ 5, [0, 2048, 8192, 32768, 131072, 65536].getD n 0 ∈ [0, 2048, 8192, 32768, 131072, 65536] := by decide

/-- R203 to R205: the cartridge of a well-formed image has legal sizes. -/
theorem cartOfWellFormed_legal {image : List Byte} (h : WellFormedImage image) (sramBytes : Option (List Byte)) :
    (cartOfWellFormed image sramBytes).Legal where
  romBanks := romBanks_legal _ h.romByte
  ramSize := ramSize_legal _ h.ramByte
  romOnly hm := by
    have hrom := h.romOnly ((mapperOfKnownType_eq_romOnly _).1 hm)
    rw [cartOfWellFormed, hrom]
    rfl

/-- R205, R693: a constructed core is the construction state around the cartridge of a well-formed image. -/
theorem new_next {image : List Byte} {sramBytes : Option (List Byte)} {ram : RamInit} {mode : IllegalOpcodeMode}
    {s : State} (h : new image sramBytes ram mode = .next s) :
    WellFormedImage image ∧ s = .postBoot (cartOfWellFormed image sramBytes) ram mode := by
  cases hc : Cart.ofImage image sramBytes with
  | none => rw [new, hc] at h; cases h
  | some c =>
    have hw := wellFormed_of_ofImage hc
    rw [new, ofImage_of_wellFormed hw] at h
    exact ⟨hw, (Host.Outcome.next.inj h).symm⟩

/-- Settles O38: construction fixes everything the invariant speaks of but the four arrays of `ram_init`. -/
theorem resetMeetsInvariant : Obligations.ResetMeetsInvariant := by
  have blank : Cart.blank.Legal := ⟨by decide, by decide, fun _ => rfl⟩
  refine ⟨(postBoot_inv_iff blank rfl rfl .zero .lock).2 ⟨rfl, rfl, rfl, rfl⟩, ?_⟩
  intro image sramBytes ram mode s h
  obtain ⟨hw, rfl⟩ := new_next h
  exact postBoot_inv_iff (cartOfWellFormed_legal hw sramBytes) (store_ofList_wf _ hw.banks.le)
    (store_ofList_wf _ (List.length_take_le _ _)) ram mode

/-! ### Accesses to the cartridge -/

section
variable (s : State) {a : Word} (v : Byte)

/-- R210: 0x0000-0x3FFF reads bank 0. -/
theorem read_romBank0 (h : a.toNat < 0x4000) : s.read a = s.cart.romByte 0 a.toNat := by
  rw [State.read, regionOf_cartRom (by omega), State.readRegion, Cart.readRom, Cart.romWindow, if_pos h, Cart.romByte]

/-- R213, R214, R216: 0x4000-0x7FFF reads the bank the mapper selects. -/
theorem read_switchableBank (h : 0x4000 ≤ a.toNat) (h' : a.toNat < 0x8000) :
    s.read a = s.cart.romByte s.cart.switchableBank (a.toNat - 0x4000) := by
  rw [State.read, regionOf_cartRom h', State.readRegion, Cart.readRom, Cart.romWindow, if_neg (by omega), Cart.romByte]

/-- R151: a write to 0x0000-0x7FFF goes to the mapper. -/
theorem write_cartRom (h : a.toNat < 0x8000) : s.write a v = s.writeCartRom a v :=
  (access_of_region (regionOf_cartRom h) s v).2

section
variable {s} (h : 0xA000 ≤ a.toNat) (h' : a.toNat < 0xC000)
include h h'

/-- R213, R215, R217: the RAM window where it reaches nothing. -/
theorem access_ramWindow_closed (hw : s.cart.ramWindow a = .closed) : s.read a = 0xFF#8 ∧ s.write a v = s := by
  obtain ⟨hr, hs⟩ := access_of_region (regionOf_cartRam h h') s v
  rw [hr, hs, State.readRegion, Cart.readRam, State.writeRegion, State.writeCartRam, hw]
  exact ⟨rfl, rfl⟩

/-- R215, R217: the RAM window where it reaches a byte of cartridge RAM. -/
theorem access_ramWindow_sram {index : Nat} (hw : s.cart.ramWindow a = .sram index) :
    s.read a = Store.read s.cart.sram index ∧
      s.write a v = { s with cart := { s.cart with sram := Store.write s.cart.sram index v } } := by
  obtain ⟨hr, hs⟩ := access_of_region (regionOf_cartRam h h') s v
  rw [hr, hs, State.readRegion, Cart.readRam, State.writeRegion, State.writeCartRam, hw]
  exact ⟨rfl, rfl⟩

/-- R217, R227: the RAM window where it reaches an RTC register. -/
theorem access_ramWindow_rtc {register : Nat} (hw : s.cart.ramWindow a = .rtc register) :
    s.read a = s.cart.rtcByte register ∧
      s.write a v =
        { s with host := { s.host with rtcWrites := s.host.rtcWrites ++ [{ register := register, value := v }] } } := by
  obtain ⟨hr, hs⟩ := access_of_region (regionOf_cartRam h h') s v
  rw [hr, hs, State.readRegion, Cart.readRam, State.writeRegion, State.writeCartRam, hw]
  exact ⟨rfl, rfl⟩

end
end

/-! ### The bytes written to mapper registers -/

/-- R211, R212: the RAM enable is the low four bits being 0xA. -/
theorem ramEnableValue_eq (v : Byte) : ramEnableValue v = decide (v.toNat % 16 = 0x0A) := by
  refine decide_eq_decide.2 ?_
  rw [← BitVec.toNat_inj, BitVec.extractLsb'_toNat]
  rfl

/-- R211: the banking mode is bit 0. -/
theorem getLsbD_zero_eq (v : Byte) : v.getLsbD 0 = decide (v.toNat % 2 = 1) := Nat.testBit_zero v.toNat

/-! ### ROM-only -/

theorem ramWindow_romOnly {c : Cart} (a : Word) (hm : c.mapper = .romOnly) : c.ramWindow a = .closed := by
  rw [Cart.ramWindow, hm]

theorem switchableBank_romOnly {c : Cart} (hm : c.mapper = .romOnly) : c.switchableBank = 1 := by
  rw [Cart.switchableBank, hm]

theorem writeCartRom_romOnly {s : State} (a : Word) (v : Byte) (hm : s.cart.mapper = .romOnly) :
    s.writeCartRom a v = s := by
  rw [State.writeCartRom, hm]

/-! ### MBC1 -/

/-- The number of two bit fields side by side. -/
theorem toNat_append_eq_add {m n : Nat} (x : BitVec m) (y : BitVec n) :
    (x ++ y).toNat = 2 ^ n * x.toNat + y.toNat := by
  rw [BitVec.toNat_append, Nat.shiftLeft_eq, mul_comm, ← Nat.two_pow_add_eq_or_of_lt y.isLt]

section
variable {c : Cart} {r : Mbc1} (hm : c.mapper = .mbc1 r)
include hm

/-- R214: the two bits of the upper register stand above the five of the low one, in which 0 selects 1. -/
theorem switchableBank_mbc1 :
    c.switchableBank =
      (let lo := if r.romBankLo.toNat = 0 then 1 else r.romBankLo.toNat
      if r.bankingMode = false then 32 * r.ramBankOrUpper.toNat + lo else lo) := by
  have hlo : (if r.romBankLo = 0#5 then 1#5 else r.romBankLo).toNat =
      if r.romBankLo.toNat = 0 then 1 else r.romBankLo.toNat :=
    (apply_ite BitVec.toNat _ _ _).trans (if_congr BitVec.toNat_inj.symm rfl rfl)
  rw [Cart.switchableBank, hm]
  dsimp only
  rw [toNat_append_eq_add, hlo]
  cases r.bankingMode <;> rfl

/-- R215: MBC1's RAM window, enabled. -/
theorem ramWindow_mbc1 (a : Word) (he : r.ramEnabled = true) :
    c.ramWindow a =
      c.sramTarget (if r.bankingMode = true then r.ramBankOrUpper.toNat else 0) (a.toNat - 0xA000) := by
  rw [Cart.ramWindow, hm]
  exact if_pos he

/-- R215: MBC1's RAM window, disabled or with no RAM. -/
theorem ramWindow_mbc1_closed (a : Word) (h : r.ramEnabled = false ∨ c.ramSize = 0) : c.ramWindow a = .closed := by
  cases he : r.ramEnabled with
  | false => rw [Cart.ramWindow, hm]; exact if_neg (by simp [he])
  | true => rw [ramWindow_mbc1 hm a he, Cart.sramTarget, if_pos (h.resolve_left (by simp [he]))]

end

/-- R211: a write to 0x0000-0x7FFF sets an MBC1 register and nothing else. -/
theorem write_mbc1 {s : State} {r r' : Mbc1} {a : Word} {v : Byte} (hm : s.cart.mapper = .mbc1 r)
    (h : a.toNat < 0x8000) (hr : r.write a v = r') :
    s.write a v = { s with cart := { s.cart with mapper := .mbc1 r' } } := by
  rw [write_cartRom s v h, State.writeCartRom, hm, ← hr]

/-- R211: which register of an MBC1 a write sets. -/
theorem mbc1_write_eq (r : Mbc1) (a : Word) (v : Byte) :
    r.write a v =
      if a.toNat < 0x2000 then { r with ramEnabled := decide (v.toNat % 16 = 0x0A) }
      else if a.toNat < 0x4000 then { r with romBankLo := BitVec.ofNat 5 v.toNat }
      else if a.toNat < 0x6000 then { r with ramBankOrUpper := BitVec.ofNat 2 v.toNat }
      else { r with bankingMode := decide (v.toNat % 2 = 1) } := by
  rw [Mbc1.write, ramEnableValue_eq, getLsbD_zero_eq]
  rfl

/-- R215, R217: the RAM window over a bank of cartridge RAM. -/
theorem sramTarget_of_ne_zero {c : Cart} (h : c.ramSize ≠ 0) (bank off : Nat) :
    c.sramTarget bank off = .sram ((bank * 0x2000 + off) % c.ramSize) := if_neg h

/-- Settles O47: by the mapper and by the window of the address. -/
theorem romOnlyAndMbc1 : Obligations.RomOnlyAndMbc1 := by
  intro s a v n romByte
  refine ⟨read_romBank0 s, fun hm => ?_, fun r hm => ?_⟩
  · refine ⟨fun h => ?_, fun h h' => ?_, fun h h' => ?_⟩
    · rw [write_cartRom s v h, writeCartRom_romOnly a v hm]
    · rw [read_switchableBank s h h', switchableBank_romOnly hm]
      rfl
    · exact access_ramWindow_closed v h h' (ramWindow_romOnly a hm)
  · intro becomes
    refine ⟨fun h => ?_, fun h h' => ?_, fun h h' => ?_, fun h h' => ?_, fun h h' => ?_,
      fun h h' => ⟨fun hc => ?_, fun he hz => ?_⟩⟩
    · exact write_mbc1 hm (by omega) (by rw [mbc1_write_eq, if_pos h])
    · exact write_mbc1 hm (by omega) (by rw [mbc1_write_eq, if_neg (by omega), if_pos h'])
    · exact write_mbc1 hm (by omega) (by rw [mbc1_write_eq, if_neg (by omega), if_neg (by omega), if_pos h'])
    · exact write_mbc1 hm h' (by rw [mbc1_write_eq, if_neg (by omega), if_neg (by omega), if_neg (by omega)])
    · rw [read_switchableBank s h h', switchableBank_mbc1 hm]
      rfl
    · exact access_ramWindow_closed v h h' (ramWindow_mbc1_closed hm a hc)
    · exact access_ramWindow_sram v h h' ((ramWindow_mbc1 hm a he).trans (sramTarget_of_ne_zero hz _ _))

/-! ### MBC3 -/

section
variable {c : Cart} {r : Mbc3} (hm : c.mapper = .mbc3 r)
include hm

/-- R216: bank 0 selects bank 1. -/
theorem switchableBank_mbc3 : c.switchableBank = if r.romBank.toNat = 0 then 1 else r.romBank.toNat := by
  rw [Cart.switchableBank, hm]
  exact if_congr BitVec.toNat_inj.symm rfl rfl

/-- R217: MBC3's RAM window, enabled, by its selection. -/
theorem ramWindow_mbc3 (a : Word) (he : r.ramEnabled = true) :
    c.ramWindow a =
      if r.ramOrRtcSelect.toNat ≤ 0x03 then c.sramTarget r.ramOrRtcSelect.toNat (a.toNat - 0xA000)
      else if 0x08 ≤ r.ramOrRtcSelect.toNat ∧ r.ramOrRtcSelect.toNat ≤ 0x0C then .rtc (r.ramOrRtcSelect.toNat - 0x08)
      else .closed := by
  rw [Cart.ramWindow, hm]
  exact if_neg (by simp [he])

/-- R217: MBC3's RAM window, disabled, with no RAM, or with nothing selected. -/
theorem ramWindow_mbc3_closed (a : Word)
    (h : r.ramEnabled = false ∨ (r.ramOrRtcSelect.toNat ≤ 0x03 ∧ c.ramSize = 0) ∨
      (0x04 ≤ r.ramOrRtcSelect.toNat ∧ r.ramOrRtcSelect.toNat ≤ 0x07) ∨ 0x0D ≤ r.ramOrRtcSelect.toNat) :
    c.ramWindow a = .closed := by
  cases he : r.ramEnabled with
  | false => rw [Cart.ramWindow, hm]; exact if_pos (by simp [he])
  | true =>
    rw [ramWindow_mbc3 hm a he]
    rcases h.resolve_left (by simp [he]) with ⟨hsel, hz⟩ | hsel
    · rw [if_pos hsel, Cart.sramTarget, if_pos hz]
    · rw [if_neg (by omega), if_neg (by omega)]

/-- R73, R217: the RTC registers, in the order of their numbers. -/
theorem rtcByte_mbc3 {register : Nat} (h : register < 5) :
    c.rtcByte register =
      [r.rtcLatched.seconds, r.rtcLatched.minutes, r.rtcLatched.hours, r.rtcLatched.dayLo,
        r.rtcLatched.dayHi].getD register 0#8 := by
  rw [Cart.rtcByte, hm]
  interval_cases register <;> rfl

end

/-- R212: which register of an MBC3 a write sets; `sample` is used when it completes the latch sequence. -/
theorem mbc3_write_eq (r : Mbc3) (a : Word) (v : Byte) (sample : RtcSample) :
    r.write a v sample =
      if a.toNat < 0x2000 then { r with ramEnabled := decide (v.toNat % 16 = 0x0A) }
      else if a.toNat < 0x4000 then { r with romBank := BitVec.ofNat 7 v.toNat }
      else if a.toNat < 0x6000 then { r with ramOrRtcSelect := v }
      else if r.latches a v then { r with rtcLatched := sample, latchPrev := v }
      else { r with latchPrev := v } := by
  rw [Mbc3.write, ramEnableValue_eq]
  rfl

/-- R212: the latch sequence completes with a write of 0x01 to 0x6000-0x7FFF after one of 0x00. -/
theorem latches_iff (r : Mbc3) (a : Word) (v : Byte) :
    r.latches a v = true ↔ 0x6000 ≤ a.toNat ∧ r.latchPrev = 0x00#8 ∧ v = 0x01#8 := by
  simp only [Mbc3.latches, Bool.and_eq_true, decide_eq_true_eq, and_assoc]

/-- R212, R226: a write that completes no latch sequence sets an MBC3 register and nothing else. -/
theorem write_mbc3 {s : State} {r r' : Mbc3} {a : Word} {v : Byte} (hm : s.cart.mapper = .mbc3 r)
    (h : a.toNat < 0x8000) (hl : ¬ r.latches a v = true)
    (hr : r.write a v (Config.hostRtcSample s.host.rtcSamples) = r') :
    s.write a v = { s with cart := { s.cart with mapper := .mbc3 r' } } := by
  rw [write_cartRom s v h, State.writeCartRom, hm, ← hr]
  simp only [if_neg hl]

/-- R212, R226: a write that completes the latch sequence takes the host's next sample. -/
theorem write_mbc3_latch {s : State} {r : Mbc3} {a : Word} {v : Byte} (hm : s.cart.mapper = .mbc3 r)
    (h : a.toNat < 0x8000) (hl : r.latches a v = true) :
    s.write a v =
      { s with
        cart :=
          { s.cart with
            mapper := .mbc3 { r with rtcLatched := Config.hostRtcSample s.host.rtcSamples, latchPrev := v } }
        host := { s.host with rtcSamples := s.host.rtcSamples + 1 } } := by
  have ha : 0x6000 ≤ a.toNat := ((latches_iff r a v).1 hl).1
  rw [write_cartRom s v h, State.writeCartRom, hm]
  dsimp only
  rw [if_pos hl, mbc3_write_eq, if_neg (by omega), if_neg (by omega), if_neg (by omega), if_pos hl]

/-- Settles O48: by the window of the address, the latch sequence and the selection. -/
theorem mbc3Cartridge : Obligations.Mbc3Cartridge := by
  intro s r a v hm n becomes
  have noLatch (h : a.toNat < 0x6000) : ¬ r.latches a v = true := fun hl => by
    have := ((latches_iff r a v).1 hl).1
    omega
  refine ⟨fun h => ?_, fun h h' => ?_, fun h h' => ?_, fun h h' => ⟨fun hl => ?_, fun hl => ?_⟩, fun h h' => ?_,
    fun h h' => ⟨fun hc => ?_, fun he hsel hz => ?_, fun he hsel hsel' => ?_⟩⟩
  · exact write_mbc3 hm (by omega) (noLatch (by omega)) (by rw [mbc3_write_eq, if_pos h])
  · exact write_mbc3 hm (by omega) (noLatch (by omega)) (by rw [mbc3_write_eq, if_neg (by omega), if_pos h'])
  · exact write_mbc3 hm (by omega) (noLatch h')
      (by rw [mbc3_write_eq, if_neg (by omega), if_neg (by omega), if_pos h'])
  · have hn : ¬ r.latches a v = true := fun hl' => hl ((latches_iff r a v).1 hl').2
    exact write_mbc3 hm h' hn
      (by rw [mbc3_write_eq, if_neg (by omega), if_neg (by omega), if_neg (by omega), if_neg hn])
  · exact write_mbc3_latch hm h' ((latches_iff r a v).2 ⟨h, hl⟩)
  · rw [read_switchableBank s h h', switchableBank_mbc3 hm]
    rfl
  · exact access_ramWindow_closed v h h' (ramWindow_mbc3_closed hm a hc)
  · exact access_ramWindow_sram v h h'
      ((ramWindow_mbc3 hm a he).trans ((if_pos hsel).trans (sramTarget_of_ne_zero hz _ _)))
  · have hw : s.cart.ramWindow a = .rtc (r.ramOrRtcSelect.toNat - 0x08) := by
      rw [ramWindow_mbc3 hm a he, if_neg (by omega), if_pos ⟨hsel, hsel'⟩]
    obtain ⟨hread, hwrite⟩ := access_ramWindow_rtc v h h' hw
    exact ⟨hread.trans (rtcByte_mbc3 hm (by omega)), hwrite⟩

end Sys2Proof.Machine

/-!
PROOFS. The statements about the encoding: the two directions of the round trip (O1, O2), an instruction's length by its
opcode byte (O3) and the written-out words (O4).
-/
namespace Sys2Proof.Machine

/-! ### Decoding what was encoded -/

/-- R250: a list with all bytes of its opcode's format decodes. -/
theorem decode_of_length_le {op : Byte} {tail : List Byte} (h : opcodeLength op ≤ (op :: tail).length) :
    decode (op :: tail) =
      .ok (decodeBytes op (tail.getD 0 0#8) (tail.getD 1 0#8), (op :: tail).drop (opcodeLength op)) :=
  if_neg (not_lt.2 h)

/-- R250: a list that ends within its opcode's format is rejected. -/
theorem decode_of_length_lt {op : Byte} {tail : List Byte} (h : (op :: tail).length < opcodeLength op) :
    decode (op :: tail) = .error .truncated :=
  if_pos h

/-- R257: a 16-bit immediate is decoded from its low byte and then its high byte. -/
theorem decodeBytes_word {op : Byte} (h : op ≠ 0xCB#8) (nn : Word) :
    decodeBytes op (lowByte nn) (highByte nn) = decodePrimary op (lowByte nn) nn :=
  (if_neg h).trans (congrArg (decodePrimary op (lowByte nn)) (joinBytes_split nn))

/-- R250: the bytes have the length of their opcode's format, and the decoder reads the instruction from them, whatever
bytes follow. -/
def Spells (i : Instr) : List Byte → Prop
  | [op] => opcodeLength op = 1 ∧ ∀ b1 b2, decodeBytes op b1 b2 = i
  | [op, b1] => opcodeLength op = 2 ∧ ∀ b2, decodeBytes op b1 b2 = i
  | [op, b1, b2] => opcodeLength op = 3 ∧ decodeBytes op b1 b2 = i
  | _ => False

theorem Spells.decode_append {i : Instr} {bytes : List Byte} (h : Spells i bytes) (rest : List Byte) :
    decode (bytes ++ rest) = .ok (i, rest) := by
  unfold Spells at h
  split at h
  case h_4 => exact h.elim
  all_goals
    obtain ⟨hl, hi⟩ := h
    rw [List.cons_append, decode_of_length_le (by simp [hl])]
    simp [hl, hi]

/-- R258 to R261: the opcode table's row of each instruction spells it. -/
theorem spells_encode (i : Instr) (h : i.wellFormed = true) : Spells i (encode i) := by
  cases i
  case illegal op =>
    simp only [Instr.wellFormed, unassignedOpcodes, List.contains_iff_mem, List.mem_cons, List.not_mem_nil,
      or_false] at h
    rcases h with rfl | rfl | rfl | rfl | rfl | rfl | rfl | rfl | rfl | rfl | rfl <;> exact ⟨rfl, fun _ _ => rfl⟩
  case ld_BC_nn nn | ld_DE_nn nn | ld_HL_nn nn | ld_SP_nn nn | ld_atnn_SP nn | ld_atnn_A nn | ld_A_atnn nn | jp_nn nn |
      jp_NZ_nn nn | jp_Z_nn nn | jp_NC_nn nn | jp_C_nn nn | call_nn nn | call_NZ_nn nn | call_Z_nn nn | call_NC_nn nn |
      call_C_nn nn =>
    exact ⟨rfl, decodeBytes_word (by decide) nn⟩
  all_goals exact ⟨rfl, by intros; rfl⟩

/-- Settles O1: an encoding spells its instruction. -/
theorem decodeInvertsEncode : Obligations.DecodeInvertsEncode :=
  fun i rest h => (spells_encode i h).decode_append rest

/-! ### Encoding what was decoded -/

/-- R258, R260: what an opcode of the primary page decodes to is encoded as the opcode and the immediate bytes that its
format has. Each opcode is one row of the opcode map, and the prefix (R261) is the only one that fails. -/
theorem encode_decodePrimary {op : Byte} (h : op ≠ 0xCB#8) (nn : Word) :
    encode (decodePrimary op (lowByte nn) nn) = (op :: immediateBytes nn).take (opcodeLength op) := by
  obtain ⟨row⟩ := op
  fin_cases row
  any_goals rfl
  exact absurd rfl h

/-- R259, R261: what a byte of the CB page decodes to is encoded as the prefix and the byte. -/
theorem encode_decodeCB : ∀ b : Byte, encode (decodeCB b) = [0xCB#8, b] := by decide

/-- R257: the bytes of a 16-bit immediate, low byte first. -/
theorem immediateBytes_joinBytes (hi lo : Byte) : immediateBytes (joinBytes hi lo) = [lo, hi] :=
  congrArg₂ (fun l h => [l, h]) (lowByte_joinBytes hi lo) (highByte_joinBytes hi lo)

/-- R250: what is decoded from an opcode and two bytes after it is encoded as those of them that its format has. -/
theorem encode_decodeBytes (op b1 b2 : Byte) :
    encode (decodeBytes op b1 b2) = [op, b1, b2].take (opcodeLength op) := by
  by_cases h : op = 0xCB#8
  · subst h
    exact encode_decodeCB b1
  · have hp := encode_decodePrimary h (joinBytes b2 b1)
    rw [lowByte_joinBytes, immediateBytes_joinBytes] at hp
    rw [decodeBytes, if_neg h]
    exact hp

/-- R250: an opcode's format has one, two or three bytes. -/
theorem opcodeLength_cases : ∀ op : Byte, opcodeLength op = 1 ∨ opcodeLength op = 2 ∨ opcodeLength op = 3 := by
  decide

/-- R250: what is decoded from a list is encoded as the bytes that were read. -/
theorem encode_decodeBytes_getD {op : Byte} {tail : List Byte} (h : opcodeLength op ≤ (op :: tail).length) :
    encode (decodeBytes op (tail.getD 0 0#8) (tail.getD 1 0#8)) = (op :: tail).take (opcodeLength op) := by
  rw [encode_decodeBytes]
  obtain hl | hl | hl := opcodeLength_cases op <;> rw [hl] at h ⊢
  · rfl
  · match tail with
    | [] => exact absurd h (by simp)
    | _ :: _ => rfl
  · match tail with
    | [] | [_] => exact absurd h (by simp)
    | _ :: _ :: _ => rfl

/-- R260: the instructions that are well formed. -/
theorem wellFormed_iff (i : Instr) : i.wellFormed = true ↔ ∀ x, i = .illegal x → x ∈ unassignedOpcodes := by
  unfold Instr.wellFormed
  split
  case h_1 op => simp
  case h_2 h => simp_all

/-- R260: what the decoder reads is well formed. -/
theorem decodeBytes_wellFormed (op b1 b2 : Byte) : (decodeBytes op b1 b2).wellFormed = true := by
  refine (wellFormed_iff _).2 fun x hx => ?_
  obtain ⟨rfl, hu⟩ := decodeBytes_illegal hx
  exact hu

/-- Settles O2: an accepted list is cut where its opcode's format ends. -/
theorem encodeInvertsDecode : Obligations.EncodeInvertsDecode := by
  intro bytes rest i h
  match bytes with
  | [] => cases h
  | op :: tail =>
    obtain hle | hlt := le_or_gt (opcodeLength op) (op :: tail).length
    · rw [decode_of_length_le hle] at h
      cases h
      refine ⟨decodeBytes_wellFormed .., ?_⟩
      rw [encode_decodeBytes_getD hle, List.take_append_drop]
    · rw [decode_of_length_lt hlt] at h
      cases h

/-! ### The length, and words written out -/

/-- Settles O3: the bytes of ILLEGAL are those of the round trip, in both directions. -/
theorem decodeTotalByOpcodeByte : Obligations.DecodeTotalByOpcodeByte := by
  refine ⟨rfl, fun op tail => ⟨opcodeLength_cases op, fun h => ⟨_, decode_of_length_le h, ?_⟩,
    decode_of_length_lt, fun hu => ?_, fun hu x rest h => ?_⟩⟩
  · rw [encode_decodeBytes_getD h, List.length_take, min_eq_left h]
  · exact decodeInvertsEncode (.illegal op) tail (List.contains_iff_mem.2 hu)
  · obtain ⟨hw, hb⟩ := encodeInvertsDecode _ _ _ h
    obtain ⟨rfl, -⟩ := List.cons.inj hb
    exact hu (List.contains_iff_mem.1 hw)

/-- Settles O4: each word is the encoding of its instruction. -/
theorem writtenOutWordsDecode : Obligations.WrittenOutWordsDecode :=
  have decodes (i : Instr) (h : i.wellFormed = true) : decode (encode i) = .ok (i, []) :=
    List.append_nil (encode i) ▸ decodeInvertsEncode i [] h
  ⟨decodes .ld_B_C rfl, decodes (.ld_A_n 0xA5#8) rfl, decodes .adc_A_atHL rfl, decodes .add_HL_SP rfl,
    decodes .bit_7_H rfl, decodes (.call_C_nn 0x4000#16) rfl, decodes .halt rfl, decodes (.illegal 0xD3#8) rfl⟩

end Sys2Proof.Machine

/-!
PROOFS. The statements about loads and stores: loads of registers (O5), of A (O6) and of pairs (O8), stores of one byte
(O7) and of two (O9), POP (O10), and PUSH followed by POP (O11).
-/
namespace Sys2Proof.Machine

/-! ### Frames, by the updates of a meaning -/

section
variable {s t : State} {regs : List Reg8}

theorem SameRegisters.refl (s : State) (regs : List Reg8) : SameRegisters regs s s := ⟨SameReg8.refl s regs, rfl, rfl⟩

theorem SameRegisters.setReg8 (h : SameRegisters regs s t) {r : Reg8} (hr : r ∈ regs) (v : Byte) :
    SameRegisters regs s (t.setReg8 r v) :=
  ⟨h.reg8.setReg8 hr v, (setReg8_sp t r v).trans h.sp, (setReg8_pc t r v).trans h.pc⟩

theorem SameRegisters.setPair (h : SameRegisters regs s t) {x y : Reg8} (hx : x ∈ regs) (hy : y ∈ regs) (v : Word) :
    SameRegisters regs s (t.setPair x y v) :=
  (h.setReg8 hx _).setReg8 hy _

theorem SameRegisters.write (h : SameRegisters regs s t) (a : Word) (v : Byte) : SameRegisters regs s (t.write a v) :=
  ⟨h.reg8.write a v, (write_sp t a v).trans h.sp, (write_pc t a v).trans h.pc⟩

theorem SameRegisters.took (h : SameRegisters regs s t) (n : Nat) : SameRegisters regs s (t.took n) :=
  ⟨h.reg8.took n, h.sp, h.pc⟩

theorem QuietFrame.refl (s : State) : QuietFrame s s := quietFrame_of (SameControl.refl s) (SameOutside.refl s)

theorem QuietFrame.setReg8 (h : QuietFrame s t) (r : Reg8) (v : Byte) : QuietFrame s (t.setReg8 r v) :=
  quietFrame_of (h.control.setReg8 r v) h.outside

theorem QuietFrame.setPair (h : QuietFrame s t) (x y : Reg8) (v : Word) : QuietFrame s (t.setPair x y v) :=
  (h.setReg8 x _).setReg8 y _

theorem QuietFrame.setFlags (h : QuietFrame s t) (f : Flags) : QuietFrame s (t.setFlags f) :=
  quietFrame_of (h.control.setFlags f) h.outside

theorem QuietFrame.setSp (h : QuietFrame s t) (v : Word) : QuietFrame s (t.setSp v) :=
  quietFrame_of (h.control.setSp v) h.outside

theorem QuietFrame.took (h : QuietFrame s t) (n : Nat) : QuietFrame s (t.took n) :=
  quietFrame_of (h.control.took n) h.outside

theorem StoreFrame.setPair {a : Word} {v : Byte} (h : StoreFrame a v s t) (x y : Reg8) (w : Word) :
    StoreFrame a v s (t.setPair x y w) :=
  storeFrame_of a v (h.control.setPair x y w) h.outside

theorem StoreFrame.took {a : Word} {v : Byte} (h : StoreFrame a v s t) (n : Nat) : StoreFrame a v s (t.took n) :=
  storeFrame_of a v (h.control.took n) h.outside

theorem StoreTwoFrame.took {a1 a2 : Word} {v1 v2 : Byte} (h : StoreTwoFrame a1 v1 a2 v2 s t) (n : Nat) :
    StoreTwoFrame a1 v1 a2 v2 s (t.took n) :=
  h.withCpu t.cpu n

end

/-- The frame of one bus write. -/
theorem write_frame (s : State) (a : Word) (v : Byte) : StoreFrame a v s (s.write a v) :=
  storeFrame_of a v (sameControl_write s a v) (SameOutside.refl _)

/-- R530: a meaning that ends in its count of cycles completes in that many. -/
theorem completes_of_exec {i : Instr} {bytes : List Byte} {n : Nat} {s u : State} {P : State → Prop}
    (hb : encode i = bytes) (hx : exec i s = .next (u.took n)) (h : P (u.took n)) : Completes i bytes n s P :=
  ⟨hb, u.took n, hx, took_cycles u n, h⟩

/-! ### Encodings of the families -/

/-- R258: LD r,r'. -/
theorem encode_ldReg (dst src : Reg8) : encode (.ldReg dst src) = [0b01#2 ++ dst.field ++ src.field] := by
  cases dst <;> cases src <;> rfl

/-- R258: LD r,n. -/
theorem encode_ldImm (dst : Reg8) (n : Byte) : encode (.ldImm dst n) = [0b00#2 ++ dst.field ++ 0b110#3, n] := by
  cases dst <;> rfl

/-- R258: LD r,(HL). -/
theorem encode_ldFromHL (dst : Reg8) : encode (.ldFromHL dst) = [0b01#2 ++ dst.field ++ 0b110#3] := by
  cases dst <;> rfl

/-- R258: LD (HL),r. -/
theorem encode_ldToHL (r : Reg8) : encode (.ldToHL r) = [0b01#2 ++ 0b110#3 ++ r.field] := by cases r <;> rfl

/-- R258: LD rr,nn. -/
theorem encode_ld16 (rr : Reg16) (nn : Word) :
    encode (.ld16 rr nn) = [0b00#2 ++ rr.field ++ 0b0001#4, lowByte nn, highByte nn] := by
  cases rr <;> rfl

/-- R258: POP of a pair other than AF. -/
theorem encode_popReg (qq : PopReg) : encode (.popReg qq) = [0b11#2 ++ qq.field ++ 0b0001#4] := by cases qq <;> rfl

/-! ### Loads of an 8-bit register -/

/-- R300 to R302: an instruction that writes one register. -/
theorem setReg8_loads (s : State) (r : Reg8) (v : Byte) (n : Nat) :
    ((s.setReg8 r v).took n).reg8 r = v ∧ ((s.setReg8 r v).took n).flags = s.flags ∧
      SameRegisters [r] s ((s.setReg8 r v).took n) ∧ QuietFrame s ((s.setReg8 r v).took n) :=
  ⟨setReg8_reg8_same s r v, setReg8_flags s r v,
    ((SameRegisters.refl s [r]).setReg8 (List.mem_singleton_self r) v).took n,
    ((QuietFrame.refl s).setReg8 r v).took n⟩

/-- Settles O5: each of the three families writes one register. -/
theorem registerLoads : Obligations.RegisterLoads :=
  ⟨fun dst src s => completes_of_exec (encode_ldReg dst src) (exec_ldReg s dst src) (setReg8_loads s dst _ 4),
    fun dst n s => completes_of_exec (encode_ldImm dst n) (exec_ldImm s dst n) (setReg8_loads s dst n 8),
    fun dst s => completes_of_exec (encode_ldFromHL dst) (exec_ldFromHL s dst) (setReg8_loads s dst _ 8)⟩

/-! ### Loads of A from memory -/

/-- R257: the high page as a sum. -/
theorem highPage_eq (n : Byte) : highPage n = 0xFF00#16 + n.zeroExtend 16 := by
  apply BitVec.eq_of_toNat_eq
  have hn := n.isLt
  rw [highPage, toNat_joinBytes, BitVec.toNat_add, BitVec.toNat_setWidth]
  simp only [BitVec.toNat_ofNat]
  omega

/-- R305, R306, R309, R311, R313: an instruction that loads A from an address, however that is computed. -/
theorem completes_loadA {i : Instr} {bytes : List Byte} {addr addr' : Word} {n : Nat} {s : State}
    (hb : encode i = bytes) (hx : exec i s = loadFrom .a addr n s) (ha : addr = addr') :
    Completes i bytes n s fun t =>
      t.reg8 .a = s.read addr' ∧ t.flags = s.flags ∧ SameRegisters [.a] s t ∧ QuietFrame s t :=
  completes_of_exec hb hx (ha ▸ setReg8_loads s .a (s.read addr) n)

/-- R315, R316: an instruction that loads A from HL and moves HL. -/
theorem completes_loadAMoveHl {i : Instr} {bytes : List Byte} {step hl : Word} {s : State}
    (hb : encode i = bytes) (hx : exec i s = loadAMoveHl step s) (hm : s.hl + step = hl) :
    Completes i bytes 8 s fun t =>
      t.reg8 .a = s.read s.hl ∧ t.hl = hl ∧ t.flags = s.flags ∧ SameRegisters [.a, .h, .l] s t ∧ QuietFrame s t := by
  subst hm
  refine completes_of_exec hb hx ⟨rfl, setHl_hl _ _, rfl, ?_, ?_⟩
  · exact (((SameRegisters.refl s _).setReg8 (by simp) _).setPair (by simp) (by simp) _).took 8
  · exact (((QuietFrame.refl s).setReg8 _ _).setPair _ _ _).took 8

/-- R316, R318: HL minus 1. -/
theorem add_neg_one (x : Word) : x + -1#16 = x - 1#16 := (BitVec.sub_eq_add_neg x 1#16).symm

/-- Settles O6: each load of A is one of the two shared operations. -/
theorem accumulatorLoads : Obligations.AccumulatorLoads :=
  ⟨fun n _ s => ⟨completes_loadA rfl rfl rfl, completes_loadA rfl rfl rfl, completes_loadA rfl rfl rfl,
      completes_loadA rfl rfl (highPage_eq n), completes_loadA rfl rfl (highPage_eq (s.reg8 .c))⟩,
    fun s => ⟨completes_loadAMoveHl rfl rfl rfl, completes_loadAMoveHl rfl rfl (add_neg_one s.hl)⟩⟩

/-! ### Stores of one byte -/

/-- R303, R304, R307, R308, R310, R312, R314: an instruction that stores a byte at an address, however that is
computed. -/
theorem completes_store {i : Instr} {bytes : List Byte} {addr addr' : Word} {v : Byte} {n : Nat} {s : State}
    (hb : encode i = bytes) (hx : exec i s = storeTo addr v n s) (ha : addr = addr') :
    Completes i bytes n s fun t => t.flags = s.flags ∧ SameRegisters [] s t ∧ StoreFrame addr' v s t := by
  subst ha
  exact completes_of_exec hb hx
    ⟨write_flags s addr v, ((SameRegisters.refl s []).write addr v).took n, (write_frame s addr v).took n⟩

/-- R317, R318: an instruction that stores A at HL and moves HL. -/
theorem completes_storeAMoveHl {i : Instr} {bytes : List Byte} {step hl : Word} {s : State}
    (hb : encode i = bytes) (hx : exec i s = storeAMoveHl step s) (hm : s.hl + step = hl) :
    Completes i bytes 8 s fun t =>
      t.hl = hl ∧ t.flags = s.flags ∧ SameRegisters [.h, .l] s t ∧ StoreFrame s.hl (s.reg8 .a) s t := by
  subst hm
  refine completes_of_exec hb hx ⟨setHl_hl _ _, (setPair_flags _ _ _ _).trans (write_flags s _ _), ?_, ?_⟩
  · exact (((SameRegisters.refl s _).write _ _).setPair (by simp) (by simp) _).took 8
  · exact ((write_frame s _ _).setPair _ _ _).took 8

/-- Settles O7: each store is one of the two shared operations. -/
theorem byteStores : Obligations.ByteStores :=
  ⟨fun r n _ s => ⟨completes_store (encode_ldToHL r) (exec_ldToHL s r) rfl, completes_store rfl rfl rfl,
      completes_store rfl rfl rfl, completes_store rfl rfl rfl, completes_store rfl rfl rfl,
      completes_store rfl rfl (highPage_eq n), completes_store rfl rfl (highPage_eq (s.reg8 .c))⟩,
    fun s => ⟨completes_storeAMoveHl rfl rfl rfl, completes_storeAMoveHl rfl rfl (add_neg_one s.hl)⟩⟩

/-! ### Loads of a pair or SP -/

section
variable (s : State)

theorem setReg16_reg16_same (rr : Reg16) (v : Word) : (s.setReg16 rr v).reg16 rr = v := by
  cases rr with
  | bc => exact setPair_bc s v
  | de => exact setPair_de s v
  | hl => exact setPair_hl s v
  | sp => rfl

@[simp] theorem setReg16_flags (rr : Reg16) (v : Word) : (s.setReg16 rr v).flags = s.flags := by cases rr <;> rfl

@[simp] theorem setReg16_pc (rr : Reg16) (v : Word) : (s.setReg16 rr v).pc = s.pc := by cases rr <;> rfl

/-- R253: SP changes only as the register named. -/
theorem setReg16_sp {rr : Reg16} (v : Word) (h : rr ≠ .sp) : (s.setReg16 rr v).sp = s.sp := by
  cases rr with
  | sp => exact absurd rfl h
  | _ => rfl

/-- R50, R253: only the halves of the pair change. -/
theorem setReg16_sameReg8 (rr : Reg16) (v : Word) : SameReg8 rr.halves s (s.setReg16 rr v) := by
  cases rr with
  | sp => exact (SameReg8.refl s _).setSp v
  | _ => exact (SameReg8.refl s _).setPair (by simp [Reg16.halves]) (by simp [Reg16.halves]) v

theorem setReg16_quietFrame (rr : Reg16) (v : Word) : QuietFrame s (s.setReg16 rr v) := by
  cases rr with
  | sp => exact (QuietFrame.refl s).setSp v
  | _ => exact (QuietFrame.refl s).setPair _ _ v

end

/-- Settles O8: LD rr,nn writes its register; LD SP,HL writes SP. -/
theorem pairLoads : Obligations.PairLoads := by
  refine ⟨fun rr nn s => completes_of_exec (encode_ld16 rr nn) (exec_ld16 s rr nn) ?_,
    fun s => completes_of_exec (u := s.setSp s.hl) rfl rfl ?_⟩
  · exact ⟨setReg16_reg16_same s rr nn, setReg16_flags s rr nn, (setReg16_sameReg8 s rr nn).took 12, setReg16_sp s nn,
      setReg16_pc s rr nn, (setReg16_quietFrame s rr nn).took 12⟩
  · exact ⟨rfl, rfl, ((SameReg8.refl s []).setSp s.hl).took 8, rfl, ((QuietFrame.refl s).setSp s.hl).took 8⟩

/-! ### Stores of two bytes -/

/-- R320: a 16-bit store changes no register, no flag and no part of the control state. -/
theorem write16_sameRegisters (s : State) (a v : Word) : SameRegisters [] s (s.write16 a v) :=
  ((SameRegisters.refl s []).write a _).write (a + 1#16) _

theorem write16_flags (s : State) (a v : Word) : (s.write16 a v).flags = s.flags :=
  (write_flags _ _ _).trans (write_flags _ _ _)

theorem write16_sameControl (s : State) (a v : Word) : SameControl s (s.write16 a v) := by
  refine ⟨?_, ?_, ?_, ?_⟩ <;> rw [State.write16, write_cpu, write_cpu]

/-- R322: an instruction that pushes two bytes. -/
theorem completes_push {i : Instr} {bytes : List Byte} {hi lo : Byte} {s : State}
    (hb : encode i = bytes) (hx : exec i s = .next ((s.push16 (joinBytes hi lo)).took 16)) :
    Completes i bytes 16 s fun t =>
      t.sp = s.sp - 2#16 ∧ t.flags = s.flags ∧ SameReg8 [] s t ∧ t.pc = s.pc ∧ SameControl s t ∧
        StoreTwoFrame (s.sp - 1#16) hi (s.sp - 2#16) lo s t := by
  have hframe := push16_frame s (joinBytes hi lo)
  rw [highByte_joinBytes, lowByte_joinBytes] at hframe
  generalize joinBytes hi lo = v at hx hframe
  exact completes_of_exec hb hx ⟨(took_sp _ 16).trans (push16_sp s v), (took_flags _ 16).trans (push16_flags s v),
    SameReg8.took (fun r _ => push16_reg8 s v r) 16, (took_pc _ 16).trans (push16_pc s v),
    (push16_sameControl s v).took 16, hframe.took 16⟩

/-- Settles O9: LD (nn),SP is a 16-bit store, and each PUSH a push of its pair. -/
theorem twoByteStores : Obligations.TwoByteStores := by
  refine ⟨fun nn s => completes_of_exec (u := s.write16 nn s.sp) rfl rfl ?_,
    fun s => ⟨completes_push rfl rfl, completes_push rfl rfl, completes_push rfl rfl, completes_push rfl rfl⟩⟩
  exact ⟨write16_flags s nn s.sp, (write16_sameRegisters s nn s.sp).took 20, (write16_sameControl s nn s.sp).took 20,
    (write16_frame s nn s.sp).took 20⟩

/-! ### POP -/

/-- R11, R254: the pair POP names, written half by half. -/
theorem setPopReg_eq (s : State) (qq : PopReg) (v : Word) : s.setPopReg qq v = s.setPair qq.first qq.second v := by
  cases qq <;> rfl

theorem popReg_first_ne_second (qq : PopReg) : qq.first ≠ qq.second := by cases qq <;> decide

theorem setPair_reg8_first (s : State) {x y : Reg8} (v : Word) (h : x ≠ y) :
    (s.setPair x y v).reg8 x = highByte v := by
  rw [State.setPair, setReg8_reg8_other _ _ h, setReg8_reg8_same]

theorem setPair_reg8_second (s : State) (x y : Reg8) (v : Word) : (s.setPair x y v).reg8 y = lowByte v :=
  setReg8_reg8_same _ y _

/-- R11: the halves of the word on top of the stack. -/
theorem highByte_top16 (s : State) : highByte s.top16 = s.read (s.sp + 1#16) := highByte_joinBytes _ _

theorem lowByte_top16 (s : State) : lowByte s.top16 = s.read s.sp := lowByte_joinBytes _ _

/-- R52, R324: F made of a byte reads as that byte without its low four bits. -/
theorem toByte_ofByte : ∀ v : Byte, (Flags.ofByte v).toByte = v &&& 0xF0#8 := by decide

/-- R323: what POP of a pair other than AF makes of the state. -/
theorem popReg_pops {s t : State} (qq : PopReg) (ht : t = (s.dropTop16.setPopReg qq s.top16).took 12) :
    t.reg8 qq.second = s.read s.sp ∧ t.reg8 qq.first = s.read (s.sp + 1#16) ∧ t.sp = s.sp + 2#16 ∧
      t.flags = s.flags ∧ SameReg8 [qq.first, qq.second] s t ∧ t.pc = s.pc ∧ QuietFrame s t := by
  rw [setPopReg_eq] at ht
  subst ht
  refine ⟨?_, ?_, setPair_sp _ _ _ _, setPair_flags _ _ _ _, ?_, setPair_pc _ _ _ _, ?_⟩
  · exact (setPair_reg8_second _ _ _ _).trans (lowByte_top16 s)
  · exact (setPair_reg8_first _ _ (popReg_first_ne_second qq)).trans (highByte_top16 s)
  · exact (((SameReg8.refl s _).setSp _).setPair (by simp) (by simp) _).took 12
  · exact (((QuietFrame.refl s).setSp _).setPair _ _ _).took 12

/-- Settles O10: POP of a pair writes its halves; POP AF writes A and the flags. -/
theorem pairPops : Obligations.PairPops := by
  refine ⟨fun qq s => completes_of_exec (encode_popReg qq) (exec_popReg s qq) (popReg_pops qq rfl),
    fun s => completes_of_exec (u := s.dropTop16.setAf s.top16) rfl rfl ?_⟩
  have hflags : ((s.dropTop16.setAf s.top16).took 12).flags = .ofByte (s.read s.sp) :=
    congrArg Flags.ofByte (lowByte_top16 s)
  rw [hflags]
  refine ⟨highByte_top16 s, rfl, rfl, rfl, rfl, toByte_ofByte _, rfl, ?_, rfl, ?_⟩
  · exact ((((SameReg8.refl s [.a]).setSp _).setReg8 (by simp) _).setFlags _).took 12
  · exact ((((QuietFrame.refl s).setSp _).setReg8 .a _).setFlags _).took 12

/-! ### Neighbouring bytes of RAM -/

/-- R215, R217: a RAM window that reaches a byte of cartridge RAM reaches the bytes of one bank. -/
theorem ramWindow_bank {c : Cart} {a : Word} {index : Nat} (h : c.ramWindow a = .sram index) :
    ∃ bank, ∀ b, c.ramWindow b = c.sramTarget bank (b.toNat - 0xA000) := by
  cases hm : c.mapper with
  | romOnly => rw [ramWindow_romOnly a hm] at h; cases h
  | mbc1 r =>
    cases he : r.ramEnabled with
    | false => rw [ramWindow_mbc1_closed hm a (.inl he)] at h; cases h
    | true => exact ⟨_, fun b => ramWindow_mbc1 hm b he⟩
  | mbc3 r =>
    cases he : r.ramEnabled with
    | false => rw [ramWindow_mbc3_closed hm a (.inl he)] at h; cases h
    | true =>
      have hsel : r.ramOrRtcSelect.toNat ≤ 0x03 := by
        by_contra hsel
        rw [ramWindow_mbc3 hm a he, if_neg hsel] at h
        split at h <;> cases h
      exact ⟨_, fun b => (ramWindow_mbc3 hm b he).trans (if_pos hsel)⟩

/-- R206: neighbouring addresses of the RAM window reach different bytes, since no cartridge RAM has one byte. -/
theorem ramWindow_next_ne {c : Cart} (hc : c.Legal) {a : Word} {index : Nat} (ha : 0xA000 ≤ a.toNat)
    (ha' : a.toNat < 0xC000) (h : c.ramWindow a = .sram index) : c.ramWindow (a + 1#16) ≠ .sram index := by
  obtain ⟨bank, hbank⟩ := ramWindow_bank h
  have hz : c.ramSize ≠ 0 := fun hz => by
    rw [hbank, Cart.sramTarget, if_pos hz] at h
    cases h
  have hsize : 1 < c.ramSize := by
    have := hc.ramSize
    simp only [List.mem_cons, List.not_mem_nil, or_false] at this
    omega
  have hnext : (a + 1#16).toNat - 0xA000 = a.toNat - 0xA000 + 1 := by bv_omega
  intro h'
  rw [hbank, sramTarget_of_ne_zero hz] at h h'
  have heq := RamTarget.sram.inj (h'.trans h.symm)
  rw [hnext, ← Nat.add_assoc] at heq
  have hdvd := (Nat.modEq_iff_dvd' (Nat.le_add_right _ 1)).1 heq.symm
  rw [Nat.add_sub_cancel_left] at hdvd
  exact absurd (Nat.le_of_dvd one_pos hdvd) (by omega)

/-- R151: the address after one of RAM is in another region, or at another offset. -/
theorem regionOf_next_ne {s : State} {a : Word} (ha : s.isRam a = true) : regionOf (a + 1#16) ≠ regionOf a := by
  intro he
  have hnext : (a + 1#16).toNat = (a.toNat + 1) % 65536 := BitVec.toNat_add a 1#16
  have h := regionOf_spec a
  have h' := regionOf_spec (a + 1#16)
  rw [he] at h'
  unfold State.isRam at ha
  cases hr : regionOf a with
  | vram off | wram off | oam off | hram off => simp only [hr] at h h'; omega
  | cartRam x =>
    rw [hr] at h h'
    obtain ⟨rfl, -, hhi⟩ := h
    have hx := congrArg BitVec.toNat h'.1
    omega
  | _ => simp [hr] at ha

/-- R165: a write to a byte of RAM does not reach the address after it. -/
theorem writeReaches_next {s : State} {a : Word} (hc : s.cart.Legal) (ha : s.isRam a = true) :
    s.writeReaches a (a + 1#16) = false := by
  have hne := regionOf_next_ne ha
  have hspec := regionOf_spec a
  have hspec' := regionOf_spec (a + 1#16)
  unfold State.writeReaches
  unfold State.isRam at ha
  cases hr : regionOf a with
  | vram off | wram off | oam off | hram off => rw [hr] at hne; exact decide_eq_false hne
  | cartRam x =>
    rw [hr] at hspec
    obtain ⟨rfl, hlo, hhi⟩ := hspec
    dsimp only
    split
    case h_1 index y hx hy =>
      rw [hy] at hspec'
      obtain ⟨rfl, -⟩ := hspec'
      exact decide_eq_false (ramWindow_next_ne hc hlo hhi hx)
    case h_2 => rfl
  | _ => simp [hr] at ha

/-! ### PUSH and then POP -/

/-- R11: a word pushed on a stack in RAM is on top of the stack. -/
theorem push16_top16 {s : State} (hs : s.Inv) (h1 : s.isRam (s.sp - 1#16) = true) (h2 : s.isRam (s.sp - 2#16) = true)
    (v : Word) : (s.push16 v).top16 = v := by
  have hnext : s.sp - 2#16 + 1#16 = s.sp - 1#16 := by bv_omega
  have hreach : s.writeReaches (s.sp - 2#16) (s.sp - 1#16) = false := hnext ▸ writeReaches_next hs.cart h2
  obtain ⟨hhi, hlo⟩ := (push16_frame s v).stored hs.memory h1 h2 hreach
  rw [top16_eq, push16_sp, hnext, hhi, hlo, joinBytes_split]

theorem took_top16 (s : State) (n : Nat) : (s.took n).top16 = s.top16 := rfl

/-- R11: the state a PUSH leaves on a stack in RAM, for the POP after it. -/
theorem push_leaves {s : State} (hs : s.Inv) (h1 : s.isRam (s.sp - 1#16) = true) (h2 : s.isRam (s.sp - 2#16) = true)
    {i : Instr} {v : Word} (hx : exec i s = .next ((s.push16 v).took 16)) :
    ∃ t, exec i s = .next t ∧ t.sp + 2#16 = s.sp ∧ t.top16 = v := by
  refine ⟨(s.push16 v).took 16, hx, ?_, (took_top16 _ 16).trans (push16_top16 hs h1 h2 v)⟩
  rw [took_sp, push16_sp, BitVec.sub_add_cancel]

/-- Settles O11: what was pushed is on top of the stack when POP reads it. -/
theorem pushThenPopRestores : Obligations.PushThenPopRestores := by
  intro s hs h1 h2
  constructor
  · obtain ⟨t, ht, hsp, htop⟩ := push_leaves hs h1 h2 (i := .push_AF) (v := s.af) rfl
    refine ⟨t, (t.dropTop16.setAf t.top16).took 12, ht, rfl, hsp, ?_, ?_⟩
    · rw [htop]
      exact highByte_joinBytes _ _
    · calc Flags.ofByte (lowByte t.top16)
          = Flags.ofByte (lowByte s.af) := by rw [htop]
        _ = s.flags := by rw [State.af, lowByte_joinBytes, ofByte_toByte]
  · obtain ⟨t, ht, hsp, htop⟩ := push_leaves hs h1 h2 (i := .push_BC) (v := s.bc) rfl
    exact ⟨t, (t.dropTop16.setPair .d .e t.top16).took 12, ht, rfl, hsp, (setPair_de _ _).trans htop⟩

end Sys2Proof.Machine

/-!
PROOFS. The statements about 8-bit arithmetic and logic: the ALU instructions (O12, O13, O14), INC and DEC of a register
(O15) and of the byte at HL (O16), DAA (O17), DAA after an addition or a subtraction (O18), and CPL, SCF and CCF (O19).
-/
namespace Sys2Proof.Machine

/-! ### Instructions that write one register and the flags -/

theorem SameRegisters.setFlags {s t : State} {regs : List Reg8} (h : SameRegisters regs s t) (f : Flags) :
    SameRegisters regs s (t.setFlags f) :=
  ⟨h.reg8.setFlags f, h.sp, h.pc⟩

theorem StoreFrame.setFlags {s t : State} {a : Word} {v : Byte} (h : StoreFrame a v s t) (f : Flags) :
    StoreFrame a v s (t.setFlags f) :=
  storeFrame_of a v (h.control.setFlags f) h.outside

/-- What an instruction leaves that writes `v` to the register `r`, sets the flags to `f`, and does nothing else. -/
structure WritesRegAndFlags (r : Reg8) (v : Byte) (f : Flags) (s t : State) : Prop where
  reg : t.reg8 r = v
  flags : t.flags = f
  registers : SameRegisters [r] s t
  frame : QuietFrame s t

theorem setReg8_setFlags_writes (s : State) (r : Reg8) (v : Byte) (f : Flags) (n : Nat) :
    WritesRegAndFlags r v f s (((s.setReg8 r v).setFlags f).took n) where
  reg := by rw [took_reg8, setFlags_reg8, setReg8_reg8_same]
  flags := rfl
  registers := (((SameRegisters.refl s [r]).setReg8 (List.mem_singleton_self r) v).setFlags f).took n
  frame := (((QuietFrame.refl s).setReg8 r v).setFlags f).took n

/-- R12, R530: an instruction that writes one register and the flags, with what follows from that alone. -/
theorem completes_writeRegAndFlags {i : Instr} {bytes : List Byte} {n : Nat} {s : State} {r : Reg8} {v : Byte}
    {f : Flags} {P : State → Prop} (hb : encode i = bytes)
    (hx : exec i s = .next (((s.setReg8 r v).setFlags f).took n)) (hP : ∀ t, WritesRegAndFlags r v f s t → P t) :
    Completes i bytes n s P :=
  completes_of_exec hb hx (hP _ (setReg8_setFlags_writes s r v f n))

/-! ### The three forms of an ALU instruction -/

/-- R351: the register form. -/
theorem encode_alu (op : AluOp) (r : Reg8) : encode (.alu op r) = [0b10#2 ++ op.field ++ r.field] := by
  cases op <;> cases r <;> rfl

/-- R351: the (HL) form. -/
theorem encode_aluHL (op : AluOp) : encode (.aluHL op) = [0b10#2 ++ op.field ++ 0b110#3] := by cases op <;> rfl

/-- R351: the immediate form. -/
theorem encode_aluImm (op : AluOp) (n : Byte) : encode (.aluImm op n) = [0b11#2 ++ op.field ++ 0b110#3, n] := by
  cases op <;> rfl

/-- R350: A after an ALU instruction: the result or, for CP, A as it was. -/
def aluLeavesA (op : AluOp) (a v : Byte) (cin : Bool) : Byte := if aluWritesA op then alu8Result op a v cin else a

theorem aluOn_eq (s : State) (op : AluOp) (v : Byte) (n : Nat) :
    aluOn op v n s = .next (((s.setReg8 .a (aluLeavesA op (s.reg8 .a) v s.flags.c)).setFlags
      (alu8Flags op (s.reg8 .a) v s.flags.c)).took n) := by
  cases op <;> rfl

/-- R351: what holds of an ALU operation on any operand holds of its three forms. -/
theorem completes_aluForms {op : AluOp} {s : State} {P : Byte → State → Prop} (r : Reg8) (n : Byte)
    (hP : ∀ v t, WritesRegAndFlags .a (aluLeavesA op (s.reg8 .a) v s.flags.c) (alu8Flags op (s.reg8 .a) v s.flags.c)
      s t → P v t) :
    Completes (.alu op r) [0b10#2 ++ op.field ++ r.field] 4 s (P (s.reg8 r)) ∧
    Completes (.aluHL op) [0b10#2 ++ op.field ++ 0b110#3] 8 s (P (s.read s.hl)) ∧
    Completes (.aluImm op n) [0b11#2 ++ op.field ++ 0b110#3, n] 8 s (P n) :=
  ⟨completes_writeRegAndFlags (encode_alu op r) ((exec_alu s op r).trans (aluOn_eq s op _ 4)) (hP _),
    completes_writeRegAndFlags (encode_aluHL op) ((exec_aluHL s op).trans (aluOn_eq s op _ 8)) (hP _),
    completes_writeRegAndFlags (encode_aluImm op n) ((exec_aluImm s op n).trans (aluOn_eq s op n 8)) (hP n)⟩

/-! ### ADD and ADC -/

theorem carryIn_eq_toNat (c : Bool) : carryIn c = c.toNat := by cases c <;> rfl

/-- R350: the sum on bytes is the sum on numbers. -/
theorem addFlags_addsInto (a v : Byte) (cin : Nat) :
    AddsInto a.toNat v.toNat cin (BitVec.ofNat 8 (a.toNat + v.toNat + cin)) (addFlags a v cin) where
  res := BitVec.toNat_ofNat _ 8
  z := decide_eq_true_iff
  n := rfl
  h := decide_eq_true_iff
  c := decide_eq_true_iff

/-- R352 to R357: ADD takes no carry in, ADC takes the flag. -/
theorem alu_addsInto {op : AluOp} (hop : op = .add ∨ op = .adc) (a v : Byte) (c : Bool) :
    AddsInto a.toNat v.toNat (if op = .adc then c.toNat else 0) (aluLeavesA op a v c) (alu8Flags op a v c) := by
  obtain rfl | rfl := hop
  · exact addFlags_addsInto a v 0
  · rw [if_pos rfl, ← carryIn_eq_toNat]
    exact addFlags_addsInto a v (carryIn c)

/-- Settles O12: each form writes the sum to A and its flags. -/
theorem aluAdditions : Obligations.AluAdditions := by
  intro op r n s hop cin adds
  refine completes_aluForms r n fun v t ⟨ha, hf, hregs, hframe⟩ => ⟨?_, hregs, hframe⟩
  rw [ha, hf]
  exact alu_addsInto hop _ v _

/-! ### SUB, SBC and CP -/

/-- R350: the flags of the difference on numbers. -/
theorem subFlags_subtractsInto (a v : Byte) (cin : Nat) :
    SubtractsInto a.toNat v.toNat cin (((a.toNat : Int) - v.toNat - cin) % 256) (subFlags a v cin) where
  value := rfl
  z := decide_eq_true_iff
  n := rfl
  h := decide_eq_true_iff
  c := decide_eq_true_iff

/-- R10: a byte made of an integer is that integer modulo 256. -/
theorem toNat_ofInt_byte (x : Int) : ((BitVec.ofInt 8 x).toNat : Int) = x % 256 := by
  rw [BitVec.toNat_ofInt]
  omega

/-- R358 to R363, R373 to R375: SUB and CP take no borrow in, SBC takes the flag; SUB and SBC write the difference to A,
CP leaves A. -/
theorem alu_subtractsInto {op : AluOp} (hop : op = .sub ∨ op = .sbc ∨ op = .cp) (a v : Byte) (c : Bool) :
    (∃ diff, SubtractsInto a.toNat v.toNat (if op = .sbc then c.toNat else 0) diff (alu8Flags op a v c) ∧
      (op ≠ .cp → ((aluLeavesA op a v c).toNat : Int) = diff)) ∧ (op = .cp → aluLeavesA op a v c = a) := by
  obtain rfl | rfl | rfl := hop
  · refine ⟨⟨_, subFlags_subtractsInto a v 0, fun _ => ?_⟩, nofun⟩
    rw [Int.ofNat_zero, Int.sub_zero]
    exact toNat_ofInt_byte _
  · rw [if_pos rfl, ← carryIn_eq_toNat]
    exact ⟨⟨_, subFlags_subtractsInto a v (carryIn c), fun _ => toNat_ofInt_byte _⟩, nofun⟩
  · exact ⟨⟨_, subFlags_subtractsInto a v 0, fun h => absurd rfl h⟩, fun _ => rfl⟩

/-- Settles O13: each form sets the flags of the difference, and all but CP write it to A. -/
theorem aluSubtractions : Obligations.AluSubtractions := by
  intro op r n s hop cin subtracts
  refine completes_aluForms r n fun v t ⟨ha, hf, hregs, hframe⟩ => ?_
  obtain ⟨hdiff, hcp⟩ := alu_subtractsInto hop (s.reg8 .a) v s.flags.c
  rw [← ha, ← hf] at hdiff
  rw [← ha] at hcp
  exact ⟨hdiff, hcp, hregs, hframe⟩

/-! ### AND, XOR and OR -/

/-- R364 to R372: the flags, from the result that is written to A. -/
theorem alu8Flags_logic {op : AluOp} (hop : op = .and ∨ op = .xor ∨ op = .or) (a v : Byte) (c : Bool) :
    alu8Flags op a v c = logicFlags (aluLeavesA op a v c) (decide (op = .and)) := by
  obtain rfl | rfl | rfl := hop <;> rfl

/-- Settles O14: each form combines A and the operand bit by bit. -/
theorem aluLogic : Obligations.AluLogic := by
  intro op r n s hop combines
  refine completes_aluForms r n fun v t ⟨ha, hf, hregs, hframe⟩ => ?_
  rw [alu8Flags_logic hop, ← ha] at hf
  dsimp only [combines]
  rw [hf]
  refine ⟨fun i => ?_, decide_eq_true_iff, rfl, rfl, rfl, hregs, hframe⟩
  rw [ha]
  obtain rfl | rfl | rfl := hop
  · exact BitVec.getLsbD_and
  · exact BitVec.getLsbD_xor
  · exact BitVec.getLsbD_or

/-! ### INC and DEC -/

/-- R376: INC r. -/
theorem encode_incReg (r : Reg8) : encode (.incReg r) = [0b00#2 ++ r.field ++ 0b100#3] := by cases r <;> rfl

/-- R378: DEC r. -/
theorem encode_decReg (r : Reg8) : encode (.decReg r) = [0b00#2 ++ r.field ++ 0b101#3] := by cases r <;> rfl

theorem extractLsb'_low_eq_iff (v : Byte) (x : BitVec 4) : v.extractLsb' 0 4 = x ↔ v.toNat % 16 = x.toNat := by
  rw [← BitVec.toNat_inj, BitVec.extractLsb'_toNat]
  rfl

/-- R376: H of INC is the carry from bit 3. -/
theorem incFlags_h (f : Flags) (old : Byte) : (incFlags f old).h = true ↔ old.toNat % 16 = 0xF :=
  decide_eq_true_iff.trans (extractLsb'_low_eq_iff old 0xF#4)

/-- R378: H of DEC is the borrow from bit 4. -/
theorem decFlags_h (f : Flags) (old : Byte) : (decFlags f old).h = true ↔ old.toNat % 16 = 0x0 :=
  decide_eq_true_iff.trans (extractLsb'_low_eq_iff old 0x0#4)

/-- Settles O15: both write the register and the flags. -/
theorem registerIncrements : Obligations.RegisterIncrements := by
  refine fun r s =>
    ⟨completes_writeRegAndFlags (encode_incReg r) (exec_incReg s r) fun t ⟨hr, hf, hregs, hframe⟩ => ?_,
      completes_writeRegAndFlags (encode_decReg r) (exec_decReg s r) fun t ⟨hr, hf, hregs, hframe⟩ => ?_⟩
  · rw [hf, hr]
    exact ⟨BitVec.toNat_add _ _, decide_eq_true_iff, rfl, incFlags_h _ _, rfl, hregs, hframe⟩
  · rw [hf, hr]
    refine ⟨?_, decide_eq_true_iff, rfl, decFlags_h _ _, rfl, hregs, hframe⟩
    rw [BitVec.toNat_sub, BitVec.toNat_ofNat]
    omega

/-- R377, R379: an instruction that writes the byte at HL and the flags, with what follows from that alone. -/
theorem completes_modifyHl {i : Instr} {bytes : List Byte} {n : Nat} {s : State} {v : Byte} {f : Flags}
    {P : State → Prop} (hb : encode i = bytes) (hx : exec i s = .next (((s.write s.hl v).setFlags f).took n))
    (hP : ∀ t, t.flags = f → SameRegisters [] s t → StoreFrame s.hl v s t → P t) : Completes i bytes n s P :=
  completes_of_exec hb hx (hP _ rfl ((((SameRegisters.refl s []).write s.hl v).setFlags f).took n)
    (((write_frame s s.hl v).setFlags f).took n))

/-- R377: Z of INC, from the byte read. -/
theorem incFlags_z (f : Flags) (old : Byte) : (incFlags f old).z = true ↔ old = 0xFF#8 :=
  decide_eq_true_iff.trans (by bv_omega)

/-- R379: Z of DEC, from the byte read. -/
theorem decFlags_z (f : Flags) (old : Byte) : (decFlags f old).z = true ↔ old = 0x01#8 :=
  decide_eq_true_iff.trans (by bv_omega)

/-- Settles O16: both are one bus write at HL, with the flags from the byte read. -/
theorem memoryIncrements : Obligations.MemoryIncrements := by
  refine fun s => ⟨completes_modifyHl rfl rfl fun t hf hregs hframe => ?_,
    completes_modifyHl rfl rfl fun t hf hregs hframe => ?_⟩
  · rw [hf]
    exact ⟨incFlags_z _ _, rfl, incFlags_h _ _, rfl, hregs, hframe⟩
  · rw [hf]
    exact ⟨decFlags_z _ _, rfl, decFlags_h _ _, rfl, hregs, hframe⟩

/-! ### DAA -/

/-- R380: after a subtraction, the table subtracts what the flags say. -/
theorem daaTable_sub (a : Int) (h c : Bool) :
    daaTable a true h c = (a - (if c then 0x60 else 0) - (if h then 0x06 else 0), c) := by
  cases h <;> cases c <;> simp [daaTable]

/-- R380: after an addition, the table tests for the low adjustment what the high one leaves; that adjustment does not
change the low nibble. -/
theorem daaTable_add (a : Int) (h c : Bool) :
    daaTable a false h c = (a + (if c || decide (a > 0x99) then 0x60 else 0) +
      (if h || decide (a % 16 > 0x09) then 0x06 else 0), c || decide (a > 0x99)) := by
  have hlow : (a + 0x60) % 16 = a % 16 := by omega
  simp only [daaTable, Bool.false_eq_true, if_false]
  cases c || decide (a > 0x99) <;> simp [hlow] <;> split <;> simp

theorem daaHighAdjust_eq (a : Byte) (f : Flags) : daaHighAdjust a f = (f.c || decide ((a.toNat : Int) > 0x99)) :=
  congrArg (f.c || ·) (decide_eq_decide.2 (by omega))

theorem daaLowAdjust_eq (a : Byte) (f : Flags) : daaLowAdjust a f = (f.h || decide ((a.toNat : Int) % 16 > 0x09)) :=
  congrArg (f.h || ·) (decide_eq_decide.2 (by omega))

/-- R380: A after DAA is the table's result modulo 256. -/
theorem daaResult_eq_daaTable (a : Byte) (f : Flags) :
    ((daaResult a f).toNat : Int) = (daaTable a.toNat f.n f.h f.c).1 % 256 := by
  unfold daaResult
  cases f.n with
  | true =>
    rw [daaTable_sub, if_pos rfl]
    split <;> split <;> bv_omega
  | false =>
    rw [daaTable_add, if_neg Bool.false_ne_true, ← daaHighAdjust_eq, ← daaLowAdjust_eq]
    split <;> split <;> bv_omega

/-- R380: C after DAA is the table's. -/
theorem daaFlags_c (a : Byte) (f : Flags) : (daaFlags a f).c = (daaTable a.toNat f.n f.h f.c).2 := by
  unfold daaFlags
  cases f.n with
  | true => rw [daaTable_sub, if_pos rfl]
  | false => rw [daaTable_add, if_neg Bool.false_ne_true, daaHighAdjust_eq]

/-- Settles O17: DAA writes the table's result to A and its carry to C. -/
theorem decimalAdjust : Obligations.DecimalAdjust := by
  refine fun s => completes_writeRegAndFlags rfl rfl fun t ⟨ha, hf, hregs, hframe⟩ => ?_
  rw [ha, hf]
  exact ⟨daaResult_eq_daaTable _ _, decide_eq_true_iff, rfl, rfl, daaFlags_c _ _, hregs, hframe⟩

/-! ### DAA after an addition or a subtraction of BCD bytes -/

theorem toNat_bcd {x : Nat} (hx : x < 100) : (bcd x).toNat = 16 * (x / 10) + x % 10 := by
  rw [bcd, BitVec.toNat_ofNat]
  omega

/-- A byte is determined by its number. -/
theorem eq_bcd_of_toNat {v : Byte} {z : Nat} (hz : z < 100)
    (h : (v.toNat : Int) = (16 * (z / 10) + z % 10 : Nat)) : v = bcd z :=
  BitVec.eq_of_toNat_eq ((Int.ofNat_inj.1 h).trans (toNat_bcd hz).symm)

/-- R380: the sum of two BCD bytes is above 0x99 exactly when the tens carry. -/
theorem bcd_sum_gt_iff (x y : Nat) : 16 * (x / 10) + x % 10 + (16 * (y / 10) + y % 10) > 0x99 ↔ 100 ≤ x + y := by
  omega

/-- R352, R380: the table adjusts the sum of two BCD bytes to the decimal sum. The low nibble is adjusted when the units
carry, the high one when the tens do. -/
theorem daaTable_of_addsInto {x y : Nat} {res : Byte} {f : Flags} (hx : x < 100) (hy : y < 100)
    (h : AddsInto (bcd x).toNat (bcd y).toNat 0 res f) :
    (daaTable res.toNat f.n f.h f.c).1 % 256 = (16 * ((x + y) % 100 / 10) + (x + y) % 100 % 10 : Nat) ∧
      (daaTable res.toNat f.n f.h f.c).2 = decide (100 ≤ x + y) := by
  obtain ⟨hres, -, hn, hh, hc⟩ := h
  rw [toNat_bcd hx, toNat_bcd hy] at hres hh hc
  have hunits : (f.h || decide ((res.toNat : Int) % 16 > 0x09)) = decide (10 ≤ x % 10 + y % 10) := by
    rw [Bool.eq_iff_iff, Bool.or_eq_true, hh, decide_eq_true_iff, decide_eq_true_iff]
    omega
  have htens : (f.c || decide ((res.toNat : Int) > 0x99)) = decide (100 ≤ x + y) := by
    rw [Bool.eq_iff_iff, Bool.or_eq_true, hc, decide_eq_true_iff, decide_eq_true_iff, ← bcd_sum_gt_iff]
    omega
  rw [hn, daaTable_add, hunits, htens]
  refine ⟨?_, rfl⟩
  simp only [decide_eq_true_iff]
  split <;> split <;> omega

/-- R358, R380: the table adjusts the difference of two BCD bytes to the decimal difference: H is the borrow of the
units, C that of the tens. -/
theorem daaTable_of_subtractsInto {x y : Nat} {res : Byte} {f : Flags} (hx : x < 100) (hy : y < 100)
    (h : SubtractsInto (bcd x).toNat (bcd y).toNat 0 res.toNat f) :
    (daaTable res.toNat f.n f.h f.c).1 % 256 = (16 * ((100 + x - y) % 100 / 10) + (100 + x - y) % 100 % 10 : Nat) ∧
      (daaTable res.toNat f.n f.h f.c).2 = decide (x < y) := by
  obtain ⟨hres, -, hn, hh, hc⟩ := h
  rw [toNat_bcd hx, toNat_bcd hy] at hres hh hc
  have hunits : f.h = decide (x % 10 < y % 10) := by
    rw [Bool.eq_iff_iff, hh, decide_eq_true_iff]
    omega
  have htens : f.c = decide (x < y) := by
    rw [Bool.eq_iff_iff, hc, decide_eq_true_iff]
    omega
  rw [hn, daaTable_sub, hunits, htens]
  refine ⟨?_, rfl⟩
  simp only [decide_eq_true_iff]
  split <;> split <;> omega

/-- R380: DAA on a state whose table is a decimal number's leaves that number and the table's carry. -/
theorem daa_leaves {t : State} {z : Nat} {c : Bool} (hz : z < 100)
    (h : (daaTable (t.reg8 .a).toNat t.flags.n t.flags.h t.flags.c).1 % 256 = (16 * (z / 10) + z % 10 : Nat) ∧
      (daaTable (t.reg8 .a).toNat t.flags.n t.flags.h t.flags.c).2 = c) :
    ∃ u, exec .daa t = .next u ∧ u.reg8 .a = bcd z ∧ u.flags.c = c := by
  obtain ⟨-, u, hu, -, ha, -, -, -, hc, -⟩ := decimalAdjust t
  exact ⟨u, hu, eq_bcd_of_toNat hz (ha.trans h.1), hc.trans h.2⟩

/-- Settles O18: the sum or difference is that of O12 or O13, and DAA's result O17's. -/
theorem decimalAdjustAfterAddAndSub : Obligations.DecimalAdjustAfterAddAndSub := by
  intro x y s hx hy ha hb
  constructor
  · obtain ⟨⟨-, t, ht, -, hadds, -⟩, -⟩ := aluAdditions .add .b 0#8 s (.inl rfl)
    rw [ha, hb] at hadds
    obtain ⟨u, hu, hleaves⟩ := daa_leaves (Nat.mod_lt _ (by omega)) (daaTable_of_addsInto hx hy hadds)
    exact ⟨t, u, ht, hu, hleaves⟩
  · obtain ⟨⟨-, t, ht, -, ⟨diff, hsubtracts, hdiff⟩, -⟩, -⟩ := aluSubtractions .sub .b 0#8 s (.inl rfl)
    rw [ha, hb, ← hdiff nofun] at hsubtracts
    obtain ⟨u, hu, hleaves⟩ := daa_leaves (Nat.mod_lt _ (by omega)) (daaTable_of_subtractsInto hx hy hsubtracts)
    exact ⟨t, u, ht, hu, hleaves⟩

/-! ### CPL, SCF and CCF -/

/-- R381: the complement on numbers. -/
theorem toNat_xor_ones (a : Byte) : (a ^^^ 0xFF#8).toNat = 255 - a.toNat := by
  rw [show (0xFF#8 : Byte) = BitVec.allOnes 8 from rfl, BitVec.xor_allOnes, BitVec.toNat_not]

/-- R382, R383: an instruction that writes the flags only. -/
theorem completes_writeFlags {i : Instr} {bytes : List Byte} {n : Nat} {s : State} {f : Flags} (hb : encode i = bytes)
    (hx : exec i s = .next ((s.setFlags f).took n)) :
    Completes i bytes n s fun t => t.flags = f ∧ SameRegisters [] s t ∧ QuietFrame s t :=
  completes_of_exec hb hx
    ⟨rfl, ((SameRegisters.refl s []).setFlags f).took n, ((QuietFrame.refl s).setFlags f).took n⟩

/-- Settles O19: CPL writes A and the flags, SCF and CCF the flags only. -/
theorem complementAndCarryFlag : Obligations.ComplementAndCarryFlag := by
  refine fun s => ⟨completes_writeRegAndFlags rfl rfl fun t ⟨ha, hf, hregs, hframe⟩ => ?_,
    completes_writeFlags rfl rfl, completes_writeFlags rfl rfl⟩
  exact ⟨ha ▸ toNat_xor_ones _, hf, hregs, hframe⟩

end Sys2Proof.Machine

/-!
PROOFS. The statements about 16-bit arithmetic: ADD HL,rr, INC rr and DEC rr (O20), ADD SP,e and LD HL,SP+e (O21).
-/
namespace Sys2Proof.Machine

/-! ### Instructions that write one 16-bit register -/

/-- R11, R530: an instruction that writes HL and the flags, with what follows from that alone. -/
theorem completes_writeHlAndFlags {i : Instr} {bytes : List Byte} {n : Nat} {s : State} {v : Word} {f : Flags}
    {P : State → Prop} (hb : encode i = bytes) (hx : exec i s = .next (((s.setHl v).setFlags f).took n))
    (hP : ∀ t, t.hl = v → t.flags = f → SameRegisters [.h, .l] s t → QuietFrame s t → P t) :
    Completes i bytes n s P :=
  completes_of_exec hb hx <| hP _ (setHl_hl s v) rfl
    ((((SameRegisters.refl s _).setPair (by simp) (by simp) v).setFlags f).took n)
    ((((QuietFrame.refl s).setPair _ _ v).setFlags f).took n)

/-- R253, R530: an instruction that writes a pair or SP, and not the flags. -/
theorem completes_writeReg16 {i : Instr} {bytes : List Byte} {n : Nat} {s : State} {rr : Reg16} {v : Word}
    (hb : encode i = bytes) (hx : exec i s = .next ((s.setReg16 rr v).took n)) :
    Completes i bytes n s fun t => t.reg16 rr = v ∧ t.flags = s.flags ∧ SameReg8 rr.halves s t ∧
      (rr ≠ .sp → t.sp = s.sp) ∧ t.pc = s.pc ∧ QuietFrame s t :=
  completes_of_exec hb hx ⟨setReg16_reg16_same s rr v, setReg16_flags s rr v, (setReg16_sameReg8 s rr v).took n,
    setReg16_sp s v, setReg16_pc s rr v, (setReg16_quietFrame s rr v).took n⟩

/-- What completes with `P` completes with what `P` implies. -/
theorem Completes.mono {i : Instr} {bytes : List Byte} {n : Nat} {s : State} {P Q : State → Prop}
    (h : Completes i bytes n s P) (hPQ : ∀ t, P t → Q t) : Completes i bytes n s Q := by
  obtain ⟨hb, t, hx, hcycles, ht⟩ := h
  exact ⟨hb, t, hx, hcycles, hPQ t ht⟩

/-! ### ADD HL,rr, INC rr and DEC rr -/

/-- R400: ADD HL,rr. -/
theorem encode_addHL (rr : Reg16) : encode (.addHL rr) = [0b00#2 ++ rr.field ++ 0b1001#4] := by cases rr <;> rfl

/-- R401: INC rr. -/
theorem encode_inc16 (rr : Reg16) : encode (.inc16 rr) = [0b00#2 ++ rr.field ++ 0b0011#4] := by cases rr <;> rfl

/-- R402: DEC rr. -/
theorem encode_dec16 (rr : Reg16) : encode (.dec16 rr) = [0b00#2 ++ rr.field ++ 0b1011#4] := by cases rr <;> rfl

/-- R402: minus 1 on words is minus 1 on numbers, modulo 0x10000. -/
theorem toNat_sub_one (v : Word) : ((v - 1#16).toNat : Int) = ((v.toNat : Int) - 1) % 0x10000 := by
  have hv := v.isLt
  rw [BitVec.toNat_sub, BitVec.toNat_ofNat]
  omega

/-- Settles O20: ADD HL,rr writes HL and the flags, INC rr and DEC rr the register alone. -/
theorem pairArithmetic : Obligations.PairArithmetic := by
  refine fun rr s =>
    ⟨completes_writeHlAndFlags (encode_addHL rr) (exec_addHL s rr) fun t hhl hf hregs hframe => ?_,
      (completes_writeReg16 (encode_inc16 rr) (exec_inc16 s rr)).mono fun t ⟨hrr, hrest⟩ => ⟨?_, hrest⟩,
      (completes_writeReg16 (encode_dec16 rr) (exec_dec16 s rr)).mono fun t ⟨hrr, hrest⟩ => ⟨?_, hrest⟩⟩
  · rw [hhl, hf]
    exact ⟨BitVec.toNat_add _ _, rfl, rfl, decide_eq_true_iff, decide_eq_true_iff, hregs, hframe⟩
  · rw [hrr]
    exact BitVec.toNat_add _ _
  · rw [hrr]
    exact toNat_sub_one _

/-! ### ADD SP,e and LD HL,SP+e -/

/-- R403: the sum is SP plus the signed displacement, modulo 0x10000. -/
theorem toNat_spPlusE (sp : Word) (e : Byte) :
    ((spPlusE sp e).toNat : Int) = ((sp.toNat : Int) + e.toInt) % 0x10000 := by
  rw [spPlusE, signExtend16, BitVec.signExtend, BitVec.toNat_add, BitVec.toNat_ofInt]
  omega

/-- R403: Z and N are clear; H and C are the carries of the unsigned sum of the low bytes. -/
theorem spPlusEFlags_spec (sp : Word) (e : Byte) :
    (spPlusEFlags sp e).z = false ∧ (spPlusEFlags sp e).n = false ∧
      ((spPlusEFlags sp e).h = true ↔ sp.toNat % 0x10 + e.toNat % 0x10 > 0x0F) ∧
      ((spPlusEFlags sp e).c = true ↔ sp.toNat % 0x100 + e.toNat > 0xFF) :=
  ⟨rfl, rfl, decide_eq_true_iff, decide_eq_true_iff⟩

/-- Settles O21: both compute the same sum and flags; one writes SP, the other HL. -/
theorem stackPointerPlusDisplacement : Obligations.StackPointerPlusDisplacement := by
  intro e s sum lowByteFlags
  refine ⟨completes_of_exec (u := (s.setSp (spPlusE s.sp e)).setFlags (spPlusEFlags s.sp e)) rfl rfl ?_,
    completes_writeHlAndFlags rfl rfl fun t hhl hf hregs hframe => ?_⟩
  · exact ⟨toNat_spPlusE s.sp e, spPlusEFlags_spec s.sp e, (((SameReg8.refl s []).setSp _).setFlags _).took 16, rfl,
      (((QuietFrame.refl s).setSp _).setFlags _).took 16⟩
  · dsimp only [lowByteFlags]
    rw [hhl, hf]
    exact ⟨toNat_spPlusE s.sp e, spPlusEFlags_spec s.sp e, hregs, hframe⟩

end Sys2Proof.Machine

/-!
PROOFS. The statements about rotates, shifts and bits: the accumulator rotates (O22), the CB-page rotates and shifts of
a register (O23) and of the byte at HL (O24), BIT (O25), RES and SET (O26).
-/
namespace Sys2Proof.Machine

/-! ### Encodings of the CB page -/

section
variable (k : ShiftOp) (b : Fin 8) (r : Reg8)

/-- R434: the register form of a rotate or shift. -/
theorem encode_shiftReg : encode (.shiftReg k r) = [0xCB#8, 0b00#2 ++ k.field ++ r.field] := by
  cases k <;> cases r <;> rfl

/-- R434: the (HL) form of a rotate or shift. -/
theorem encode_shiftHL : encode (.shiftHL k) = [0xCB#8, 0b00#2 ++ k.field ++ 0b110#3] := by cases k <;> rfl

/-- R451: BIT b,r. -/
theorem encode_bitReg : encode (.bitReg b r) = [0xCB#8, 0b01#2 ++ BitVec.ofNat 3 b.val ++ r.field] := by
  fin_cases b <;> cases r <;> rfl

/-- R452: BIT b,(HL). -/
theorem encode_bitHL : encode (.bitHL b) = [0xCB#8, 0b01#2 ++ BitVec.ofNat 3 b.val ++ 0b110#3] := by
  fin_cases b <;> rfl

/-- R453: RES b,r. -/
theorem encode_resReg : encode (.resReg b r) = [0xCB#8, 0b10#2 ++ BitVec.ofNat 3 b.val ++ r.field] := by
  fin_cases b <;> cases r <;> rfl

/-- R454: RES b,(HL). -/
theorem encode_resHL : encode (.resHL b) = [0xCB#8, 0b10#2 ++ BitVec.ofNat 3 b.val ++ 0b110#3] := by
  fin_cases b <;> rfl

/-- R455: SET b,r. -/
theorem encode_setReg : encode (.setReg b r) = [0xCB#8, 0b11#2 ++ BitVec.ofNat 3 b.val ++ r.field] := by
  fin_cases b <;> cases r <;> rfl

/-- R456: SET b,(HL). -/
theorem encode_setHL : encode (.setHL b) = [0xCB#8, 0b11#2 ++ BitVec.ofNat 3 b.val ++ 0b110#3] := by
  fin_cases b <;> rfl

end

/-! ### The table of rotates and shifts -/

/-- R434: bit 7 as a number. -/
theorem getLsbD_seven_eq (v : Byte) : v.getLsbD 7 = decide (128 ≤ v.toNat) :=
  BitVec.msb_eq_getLsbD_last v ▸ BitVec.msb_eq_decide v

/-- R434: the low bits as a number. -/
theorem toNat_lowBits (v : Byte) (n : Nat) : (v.extractLsb' 0 n).toNat = v.toNat % 2 ^ n :=
  BitVec.extractLsb'_toNat 0 n v

/-- R434: the high bits as a number. -/
theorem toNat_highBits (v : Byte) {i n : Nat} (h : i + n = 8) : (v.extractLsb' i n).toNat = v.toNat / 2 ^ i := by
  have hv : v.toNat < 2 ^ i * 2 ^ n := by
    rw [← pow_add, h]
    exact v.isLt
  rw [BitVec.extractLsb'_toNat, Nat.shiftRight_eq_div_pow, Nat.mod_eq_of_lt (Nat.div_lt_of_lt_mul hv)]

/-- R434: bit 7 in its place. -/
theorem toNat_and_signBit (v : Byte) : (v &&& 0x80#8).toNat = 2 ^ 7 * (v.getLsbD 7).toNat :=
  (Nat.and_two_pow v.toNat 7).trans (mul_comm _ _)

/-- R434, SRA: bit 7 stays above bits 1 to 7 moved down. -/
theorem toNat_shift8Result_sra (v : Byte) (cin : Bool) :
    (shift8Result .sra v cin).toNat = v.toNat / 2 + 128 * (v.getLsbD 7).toNat := by
  have hlow : v.toNat / 2 < 2 ^ 7 := by omega
  calc ((v >>> 1) ||| (v &&& 0x80#8)).toNat
      = 2 ^ 7 * (v.getLsbD 7).toNat ||| v.toNat / 2 := by
        rw [BitVec.toNat_or, Nat.or_comm, toNat_and_signBit, BitVec.toNat_ushiftRight, Nat.shiftRight_eq_div_pow,
          pow_one]
    _ = v.toNat / 2 + 128 * (v.getLsbD 7).toNat := by
        rw [← Nat.two_pow_add_eq_or_of_lt hlow, add_comm]

/-- R434: the result of `Shift8` on bytes is the table's on numbers. -/
theorem toNat_shift8Result (k : ShiftOp) (v : Byte) (cin : Bool) :
    (shift8Result k v cin).toNat = shiftTable k v.toNat cin.toNat := by
  have hcin := cin.toNat_lt
  cases k with
  | rlc | rrc | rl | rr | swap =>
    simp only [shift8Result, shiftTable, toNat_append_eq_add, toNat_lowBits, toNat_highBits, BitVec.toNat_ofBool]
    omega
  | sla => rw [shift8Result, shiftTable, BitVec.toNat_shiftLeft, Nat.shiftLeft_eq, pow_one, mul_comm]
  | srl => rw [shift8Result, shiftTable, BitVec.toNat_ushiftRight, Nat.shiftRight_eq_div_pow, pow_one]
  | sra =>
    rw [toNat_shift8Result_sra, getLsbD_seven_eq, shiftTable]
    by_cases h : 128 ≤ v.toNat <;> simp [h]

/-- R434: the bit shifted out is the table's carry. -/
theorem shift8Carry_eq (k : ShiftOp) (v : Byte) : shift8Carry k v = shiftOutTable k v.toNat := by
  cases k with
  | rlc | rl | sla => exact getLsbD_seven_eq v
  | rrc | rr | sra | srl => exact getLsbD_zero_eq v
  | swap => rfl

/-! ### The rotates and shifts -/

/-- Settles O23: the result and its flags are written. -/
theorem registerShifts : Obligations.RegisterShifts := by
  refine fun k r s => completes_writeRegAndFlags (encode_shiftReg k r) (exec_shiftReg s k r)
    fun t ⟨hr, hf, hregs, hframe⟩ => ?_
  rw [hr, hf]
  exact ⟨toNat_shift8Result k _ _, decide_eq_true_iff, rfl, rfl, shift8Carry_eq k _, hregs, hframe⟩

/-- Settles O24: one bus write of the result, with the flags from the byte read. -/
theorem memoryShifts : Obligations.MemoryShifts := by
  refine fun k s => completes_modifyHl (encode_shiftHL k) (exec_shiftHL s k) fun t hf hregs hframe => ?_
  rw [hf]
  exact ⟨_, toNat_shift8Result k _ _, decide_eq_true_iff, rfl, rfl, shift8Carry_eq k _, hregs, hframe⟩

/-- R430 to R433: an accumulator rotate leaves the table's result in A and its carry in C. -/
theorem completes_rotateAcc {i : Instr} {bytes : List Byte} {k : ShiftOp} {s : State} (hb : encode i = bytes)
    (hx : exec i s = rotateAcc k s) :
    Completes i bytes 4 s fun t =>
      (t.reg8 .a).toNat = shiftTable k (s.reg8 .a).toNat s.flags.c.toNat ∧
      t.flags = { z := false, n := false, h := false, c := shiftOutTable k (s.reg8 .a).toNat } ∧
      SameRegisters [.a] s t ∧ QuietFrame s t := by
  refine completes_writeRegAndFlags hb hx fun t ⟨ha, hf, hregs, hframe⟩ => ?_
  rw [ha, hf, shift8Carry_eq]
  exact ⟨toNat_shift8Result k _ _, rfl, hregs, hframe⟩

/-- Settles O22: each of the four is the rotate of its name with Z clear. -/
theorem accumulatorRotates : Obligations.AccumulatorRotates := fun _ =>
  ⟨completes_rotateAcc (k := .rlc) rfl rfl, completes_rotateAcc (k := .rrc) rfl rfl,
    completes_rotateAcc (k := .rl) rfl rfl, completes_rotateAcc (k := .rr) rfl rfl⟩

/-! ### BIT, RES and SET -/

/-- Settles O25: both forms write the flags only. -/
theorem bitTests : Obligations.BitTests := fun b r s =>
  ⟨completes_writeFlags (encode_bitReg b r) (exec_bitReg s b r),
    completes_writeFlags (encode_bitHL b) (exec_bitHL s b)⟩

/-- R453, R455: `1 << b` has bit b alone. -/
theorem getLsbD_one_shiftLeft (b i : Fin 8) : (1#8 <<< b.val).getLsbD i = decide (i = b) := by
  rw [← BitVec.twoPow_eq, BitVec.getLsbD_twoPow]
  simp [Fin.ext_iff, eq_comm]

/-- R453: RES clears bit b and leaves the others. -/
theorem getLsbD_clearBit (v : Byte) (b i : Fin 8) :
    (clearBit v b).getLsbD i = if i = b then false else v.getLsbD i := by
  rw [clearBit, BitVec.getLsbD_and, BitVec.getLsbD_not, getLsbD_one_shiftLeft]
  by_cases h : i = b <;> simp [h]

/-- R455: SET sets bit b and leaves the others. -/
theorem getLsbD_setBit (v : Byte) (b i : Fin 8) :
    (setBit v b).getLsbD i = if i = b then true else v.getLsbD i := by
  rw [setBit, BitVec.getLsbD_or, getLsbD_one_shiftLeft]
  by_cases h : i = b <;> simp [h]

/-- R453, R455: an instruction that writes one register, from its old value, and no flag. -/
theorem completes_writeReg {i : Instr} {bytes : List Byte} {n : Nat} {s : State} {r : Reg8} {v : Byte}
    {Q : Byte → Prop} (hb : encode i = bytes) (hx : exec i s = .next ((s.setReg8 r v).took n)) (hv : Q v) :
    Completes i bytes n s fun t => Q (t.reg8 r) ∧ t.flags = s.flags ∧ SameRegisters [r] s t ∧ QuietFrame s t := by
  obtain ⟨hr, hrest⟩ := setReg8_loads s r v n
  exact completes_of_exec hb hx ⟨hr.symm ▸ hv, hrest⟩

/-- Settles O26: each form writes the byte with one bit changed. -/
theorem bitResetsAndSets : Obligations.BitResetsAndSets := by
  intro b r s changed inRegister inMemory
  exact ⟨completes_writeReg (encode_resReg b r) (exec_resReg s b r) (getLsbD_clearBit _ b),
    completes_writeReg (encode_setReg b r) (exec_setReg s b r) (getLsbD_setBit _ b),
    (completes_store (encode_resHL b) (exec_resHL s b) rfl).mono fun t h => ⟨_, getLsbD_clearBit _ b, h⟩,
    (completes_store (encode_setHL b) (exec_setHL s b) rfl).mono fun t h => ⟨_, getLsbD_setBit _ b, h⟩⟩

end Sys2Proof.Machine

/-!
PROOFS. The statements about control flow: calls and restarts (O28), jumps (O27) and returns (O29).
-/
namespace Sys2Proof.Machine

/-! ### Encodings of the families -/

/-- R471: JP cc,nn. -/
theorem encode_jpCond (cc : Cond) (nn : Word) :
    encode (.jpCond cc nn) = [0b110#3 ++ cc.field ++ 0b010#3, lowByte nn, highByte nn] := by
  cases cc <;> rfl

/-- R474: JR cc,e. -/
theorem encode_jrCond (cc : Cond) (e : Byte) : encode (.jrCond cc e) = [0b001#3 ++ cc.field ++ 0b000#3, e] := by
  cases cc <;> rfl

/-- R476: CALL cc,nn. -/
theorem encode_callCond (cc : Cond) (nn : Word) :
    encode (.callCond cc nn) = [0b110#3 ++ cc.field ++ 0b100#3, lowByte nn, highByte nn] := by
  cases cc <;> rfl

/-- R478: RET cc. -/
theorem encode_retCond (cc : Cond) : encode (.retCond cc) = [0b110#3 ++ cc.field ++ 0b000#3] := by cases cc <;> rfl

/-- R480: RST. -/
theorem encode_rst (k : Fin 8) : encode (.rst k) = [0b11#2 ++ BitVec.ofNat 3 k.val ++ 0b111#3] := by
  fin_cases k <;> rfl

/-! ### Conditional instructions -/

section
variable {i : Instr} {bytes : List Byte} {cc : Cond} {taken notTaken : Nat} {s u : State}

/-- R255: an instruction whose condition is met does what it names, in the taken count. -/
theorem completes_taken {P : State → Prop} (hb : encode i = bytes)
    (hx : exec i s = .next (if s.flags.holds cc then u.took taken else s.took notTaken)) (hcc : s.flags.Meets cc)
    (h : P (u.took taken)) : Completes i bytes taken s P :=
  completes_of_exec hb (by rw [hx, if_pos ((holds_iff s.flags cc).mpr hcc)]) h

/-- R255: an instruction whose condition is not met changes nothing, in the not-taken count. -/
theorem completes_notTaken (hb : encode i = bytes)
    (hx : exec i s = .next (if s.flags.holds cc then u.took taken else s.took notTaken)) (hcc : ¬ s.flags.Meets cc) :
    Completes i bytes notTaken s fun t => t.flags = s.flags ∧ SameRegisters [] s t ∧ QuietFrame s t :=
  completes_of_exec hb (by rw [hx, if_neg (mt (holds_iff s.flags cc).mp hcc)])
    ⟨rfl, (SameRegisters.refl s []).took notTaken, (QuietFrame.refl s).took notTaken⟩

end

/-! ### CALL, CALL cc and RST -/

/-- R475, R476, R480: a call pushes PC and writes PC; nothing else but SP changes. -/
theorem call_calls (s : State) (target : Word) (n : Nat) :
    ((s.call target).took n).pc = target ∧ ((s.call target).took n).sp = s.sp - 2#16 ∧
      ((s.call target).took n).flags = s.flags ∧ SameReg8 [] s ((s.call target).took n) ∧
      SameControl s ((s.call target).took n) ∧
      StoreTwoFrame (s.sp - 1#16) (highByte s.pc) (s.sp - 2#16) (lowByte s.pc) s ((s.call target).took n) := by
  have hregs : SameReg8 [] s (s.push16 s.pc) := fun r _ => push16_reg8 s s.pc r
  exact ⟨rfl, push16_sp s s.pc, push16_flags s s.pc, (hregs.setPc target).took n,
    ((push16_sameControl s s.pc).setPc target).took n, (push16_frame s s.pc).withCpu _ n⟩

/-- Settles O28: each is a call of its target, or not taken. -/
theorem callsAndRestarts : Obligations.CallsAndRestarts := by
  intro cc nn k s calls
  refine ⟨completes_of_exec rfl rfl (call_calls s nn 24),
    fun hcc => completes_taken (encode_callCond cc nn) (exec_callCond s cc nn) hcc (call_calls s nn 24),
    fun hcc => completes_notTaken (encode_callCond cc nn) (exec_callCond s cc nn) hcc,
    completes_of_exec (encode_rst k) (exec_rst s k) ?_⟩
  rw [Nat.mul_comm k.val 8]
  exact call_calls s _ 16

/-! ### JP and JR -/

/-- R470 to R474: a jump writes PC alone. -/
theorem setPc_jumps (s : State) (target : Word) (n : Nat) :
    ((s.setPc target).took n).pc = target ∧ ((s.setPc target).took n).flags = s.flags ∧
      SameReg8 [] s ((s.setPc target).took n) ∧ ((s.setPc target).took n).sp = s.sp ∧
      QuietFrame s ((s.setPc target).took n) :=
  ⟨rfl, rfl, ((SameReg8.refl s []).setPc target).took n, rfl,
    quietFrame_of (((SameControl.refl s).setPc target).took n) (((SameOutside.refl s).setPc target).took n)⟩

/-- Settles O27: each is a jump to its target, or not taken. -/
theorem jumps : Obligations.Jumps := by
  intro cc nn e s leaves relative
  have stays (t : State) (h : t.flags = s.flags ∧ SameRegisters [] s t ∧ QuietFrame s t) : t.pc = s.pc ∧ leaves t := by
    obtain ⟨hflags, hregs, hframe⟩ := h
    exact ⟨hregs.pc, hflags, hregs.reg8, hregs.sp, hframe⟩
  exact ⟨completes_of_exec rfl rfl (setPc_jumps s nn 16),
    fun hcc => completes_taken (encode_jpCond cc nn) (exec_jpCond s cc nn) hcc (setPc_jumps s nn 16),
    fun hcc => (completes_notTaken (encode_jpCond cc nn) (exec_jpCond s cc nn) hcc).mono stays,
    completes_of_exec rfl rfl (setPc_jumps s s.hl 4),
    completes_of_exec rfl rfl (setPc_jumps s relative 12),
    fun hcc => completes_taken (encode_jrCond cc e) (exec_jrCond s cc e) hcc (setPc_jumps s relative 12),
    fun hcc => (completes_notTaken (encode_jrCond cc e) (exec_jrCond s cc e) hcc).mono stays⟩

/-! ### RET, RET cc and RETI -/

/-- R477 to R479: a state whose PC is the word on top of the stack, with what a return leaves unchanged. -/
theorem pops_of_pc_top16 {s t : State} (hpc : t.pc = s.top16) (hsp : t.sp = s.sp + 2#16) (hflags : t.flags = s.flags)
    (hregs : SameReg8 [] s t) (houtside : SameOutside s t) :
    lowByte t.pc = s.read s.sp ∧ highByte t.pc = s.read (s.sp + 1#16) ∧ t.sp = s.sp + 2#16 ∧ t.flags = s.flags ∧
      SameReg8 [] s t ∧ SameOutside s t ∧ SameReads s t := by
  rw [hpc]
  exact ⟨lowByte_top16 s, highByte_top16 s, hsp, hflags, hregs, houtside, houtside.reads⟩

/-- R477: popping PC changes no 8-bit register and no part of the control state. -/
theorem popPc_sameReg8 (s : State) : SameReg8 [] s s.popPc := ((SameReg8.refl s []).setSp _).setPc _

theorem popPc_sameControl (s : State) : SameControl s s.popPc := ((SameControl.refl s).setSp _).setPc _

/-- Settles O29: each pops PC, or is not taken; RETI sets IME besides. -/
theorem returns : Obligations.Returns := by
  intro cc s pops
  have popPc_pops (n : Nat) : pops (s.popPc.took n) ∧ SameControl s (s.popPc.took n) :=
    ⟨pops_of_pc_top16 rfl rfl rfl ((popPc_sameReg8 s).took n) rfl, (popPc_sameControl s).took n⟩
  exact ⟨completes_of_exec rfl rfl (popPc_pops 16),
    fun hcc => completes_taken (encode_retCond cc) (exec_retCond s cc) hcc (popPc_pops 20),
    fun hcc => completes_notTaken (encode_retCond cc) (exec_retCond s cc) hcc,
    completes_of_exec rfl rfl
      ⟨pops_of_pc_top16 rfl rfl rfl (((popPc_sameReg8 s).setIme true).took 16) rfl, rfl, rfl, rfl, rfl⟩⟩

end Sys2Proof.Machine

/-!
PROOFS. The statements about the system instructions: NOP, DI, EI, HALT and STOP (O30), and when EI takes effect (O34).
-/
namespace Sys2Proof.Machine

/-! ### NOP, DI, EI, HALT and STOP -/

/-- R500 to R504: writing IME, the EI latch and the mode leaves the registers, the flags, the fault record and
everything outside the CPU. -/
theorem setControl_leaves (s : State) (ime : Bool) (eiDelay : Nat) (mode : CpuMode) (n : Nat) :
    let t := (((s.setIme ime).setEiDelay eiDelay).setMode mode).took n
    t.flags = s.flags ∧ SameRegisters [] s t ∧ t.cpu.faultRecord = s.cpu.faultRecord ∧ SameOutside s t ∧
      SameReads s t :=
  ⟨rfl, ⟨((((SameReg8.refl s []).setIme ime).setEiDelay eiDelay).setMode mode).took n, rfl, rfl⟩, rfl, rfl,
    fun _ => rfl⟩

/-- R504: EI starts the latch unless it is already counting. -/
theorem exec_ei (s : State) :
    exec .ei s = .next ((s.setEiDelay (if s.cpu.eiDelay = 0 then 2 else s.cpu.eiDelay)).took 4) := by
  show execEi s = _
  unfold execEi
  split <;> rfl

/-- Settles O30: each writes at most IME, the EI latch and the mode. -/
theorem systemInstructions : Obligations.SystemInstructions := by
  intro ignored s leaves
  have hleaves (ime : Bool) (eiDelay : Nat) (mode : CpuMode) :
      leaves ((((s.setIme ime).setEiDelay eiDelay).setMode mode).took 4) := setControl_leaves s ime eiDelay mode 4
  exact ⟨completes_of_exec rfl rfl ⟨hleaves s.cpu.ime s.cpu.eiDelay s.cpu.mode, (SameControl.refl s).took 4⟩,
    completes_of_exec rfl rfl ⟨hleaves false 0 s.cpu.mode, rfl, rfl, rfl⟩,
    completes_of_exec rfl (exec_ei s)
      ⟨hleaves s.cpu.ime (if s.cpu.eiDelay = 0 then 2 else s.cpu.eiDelay) s.cpu.mode, rfl, rfl, rfl⟩,
    completes_of_exec rfl rfl ⟨hleaves s.cpu.ime s.cpu.eiDelay .halted, rfl, rfl, rfl⟩,
    completes_of_exec rfl rfl ⟨hleaves s.cpu.ime s.cpu.eiDelay .stopped, rfl, rfl, rfl⟩⟩

/-! ### A step, by its event -/

section
variable {s : State}

/-- R530, R691: an idle step changes what it returns alone, and the devices tick by 4. -/
theorem step_idle {x : ExitReason} (h : s.matureEi.nextEvent = .idle x) :
    step s = .next (State.tickN 4 (s.matureEi.returns 4 x)) := by
  unfold step advance cpuStep
  simp only [h]
  rfl

/-- R530, R691: a step that takes an interrupt services it, and the devices tick by 20. -/
theorem step_service {i : Interrupt} (h : s.matureEi.nextEvent = .service i) :
    step s = .next (State.tickN 20 ((s.matureEi.wake.service i).returns 20 .interruptTaken)) := by
  unfold step advance cpuStep
  simp only [h]
  rfl

/-- R530, R691: a step that fetches runs the instruction at PC, and the devices tick by the count it took. -/
theorem step_fetch {u : State} (h : s.matureEi.nextEvent = .fetch)
    (hx : exec s.matureEi.wake.instrAtPc s.fetched = .next u) :
    step s = .next (State.tickN u.host.cycles u.setExit) := by
  have hrun : s.matureEi.wake.runInstr = .next u.setExit := congrArg (mapNext State.setExit) hx
  unfold step advance cpuStep
  simp only [h, hrun]
  rfl

/-- R530: a running CPU with IME = 0 fetches, unless an enable matures in this step. -/
theorem nextEvent_fetch_of_disabled (hm : s.cpu.mode = .running) (hi : s.cpu.ime = false) (he : s.cpu.eiDelay ≠ 1) :
    s.matureEi.nextEvent = .fetch :=
  nextEvent_fetch _ (.inl (by rw [matureEi_mode, hm])) (by simp [hi, he])

end

/-! ### When EI takes effect -/

/-- R531: an instruction's exit reason is never that of an interrupt. -/
theorem setExit_ne_interruptTaken (s : State) : s.setExit.host.exit ≠ .interruptTaken := by
  show exitOf s.cpu.mode ≠ _
  cases s.cpu.mode <;> nofun

@[simp] theorem tickN_pc (s : State) (n : Nat) : (State.tickN n s).pc = s.pc := congrArg Cpu.pc (tickN_cpu s n)

/-- R503: the bytes at PC decode to DI exactly when the first is 0xF3. -/
theorem instrAtPc_eq_di_iff {s : State} : s.matureEi.wake.instrAtPc = .di ↔ s.read s.pc = 0xF3#8 := by
  rw [instrAtPc_wake_matureEi]
  generalize s.read s.pc = op
  constructor
  · intro h
    have hbytes := encode_decodeBytes op (s.read (s.pc + 1#16)) (s.read (s.pc + 2#16))
    rw [h] at hbytes
    obtain hl | hl | hl := opcodeLength_cases op <;> rw [hl] at hbytes <;> exact (List.cons.inj hbytes).1.symm
  · rintro rfl
    rfl

/-- R56: while the EI latch counts, DI alone writes it. -/
theorem ExecEffect.eiDelay_of_counting {i : Instr} {s t : State} (h : ExecEffect i s t) (hc : s.cpu.eiDelay ≠ 0)
    (hdi : i ≠ .di) : t.cpu.eiDelay = s.cpu.eiDelay := by
  cases h with
  | ordinary h =>
    obtain he | ⟨hi, -⟩ | ⟨-, h0, -⟩ := h.eiDelay
    · exact he
    · exact absurd hi hdi
    · exact absurd h0 hc
  | illegal op hi hm ht => subst ht; rfl

/-- R525: a pending set that is not empty has a lowest bit. -/
theorem lowestPending_of_ne_zero : ∀ p : BitVec 5, p ≠ 0#5 → ∃ i, lowestPending p = some i := by
  have h : ∀ p : BitVec 5, p ≠ 0#5 → (lowestPending p).isSome := by decide
  exact fun p hp => Option.isSome_iff_exists.1 (h p hp)

/-- R530: with IME set or maturing, a CPU that is not locked or stopped takes an interrupt when one is pending. -/
theorem step_takes_interrupt {s : State} (hm : s.cpu.mode = .running ∨ s.cpu.mode = .halted)
    (hi : s.cpu.ime = true ∨ s.cpu.eiDelay = 1) (hp : s.pending ≠ 0#5) :
    ∃ t, step s = .next t ∧ t.host.exit = .interruptTaken := by
  obtain ⟨i, hl⟩ := lowestPending_of_ne_zero _ hp
  have hime : s.matureEi.cpu.ime = true := by simpa using hi
  have hservice : s.matureEi.serviceOrFetch = .service i := by
    rw [State.serviceOrFetch, if_pos hime, matureEi_pending, hl]
  have hevent : s.matureEi.nextEvent = .service i := by
    rw [State.nextEvent, matureEi_mode, matureEi_pending]
    rcases hm with hm | hm <;> simp [hm, hp, hservice]
  exact ⟨_, step_service hevent, by rw [tickN_host]; rfl⟩

/-- R504: the step of EI, with IME = 0 and no enable pending. -/
theorem step_ei {s : State} (hm : s.cpu.mode = .running) (hi : s.cpu.ime = false) (he : s.cpu.eiDelay = 0)
    (hb : s.read s.pc = 0xFB#8) :
    ∃ t, step s = .next t ∧ t.pc = s.pc + 1#16 ∧ t.cpu.ime = false ∧ t.cpu.eiDelay = 2 ∧ t.cpu.mode = .running ∧
      t.host.exit = .step := by
  have hei : s.matureEi.wake.instrAtPc = .ei := by rw [instrAtPc_wake_matureEi, hb]; rfl
  have hpc : s.fetched.pc = s.pc + 1#16 := by rw [fetched_pc, hb]; rfl
  have hime : s.fetched.cpu.ime = false := (matureEi_ime s).trans (by simp [hi, he])
  have hlatch : s.fetched.cpu.eiDelay = 0 := (matureEi_eiDelay s).trans (by simp [he])
  have hx : exec s.matureEi.wake.instrAtPc s.fetched = .next ((s.fetched.setEiDelay 2).took 4) := by
    rw [hei, exec_ei, if_pos hlatch]
  refine ⟨_, step_fetch (nextEvent_fetch_of_disabled hm hi (by omega)) hx, ?_⟩
  rw [tickN_pc, tickN_cpu, tickN_host]
  exact ⟨hpc, hime, rfl, rfl, rfl⟩

/-- R503, R504: the step after EI takes no interrupt; DI cancels the enable there, and every other instruction leaves it
due in the next step. -/
theorem step_after_ei {s : State} (hm : s.cpu.mode = .running) (hi : s.cpu.ime = false) (he : s.cpu.eiDelay = 2) :
    ∃ t, step s = .next t ∧ t.host.exit ≠ .interruptTaken ∧
      (s.read s.pc = 0xF3#8 → t.cpu.ime = false ∧ t.cpu.eiDelay = 0) ∧
      (s.read s.pc ≠ 0xF3#8 → t.cpu.eiDelay = 1) := by
  obtain ⟨u, hx, heffect⟩ := exec_effect s.matureEi.wake.instrAtPc s.fetched
  have hlatch : s.fetched.cpu.eiDelay = 1 := (matureEi_eiDelay s).trans (by rw [he])
  refine ⟨_, step_fetch (nextEvent_fetch_of_disabled hm hi (by omega)) hx, ?_⟩
  rw [tickN_cpu, tickN_host]
  refine ⟨setExit_ne_interruptTaken u, fun hb => ?_, fun hb => ?_⟩
  · rw [instrAtPc_eq_di_iff.2 hb] at hx
    cases hx
    exact ⟨rfl, rfl⟩
  · exact (heffect.eiDelay_of_counting (by omega) (mt instrAtPc_eq_di_iff.1 hb)).trans hlatch

/-- Settles O34: the step of EI, the step after it, and the step in which the enable matures. -/
theorem enableTakesEffectAfterNextInstruction : Obligations.EnableTakesEffectAfterNextInstruction := by
  intro s hm hi he hb
  obtain ⟨t, ht, htpc, htime, htlatch, htmode, htexit⟩ := step_ei hm hi he hb
  obtain ⟨u, hu, huexit, hdi, hother⟩ := step_after_ei htmode htime htlatch
  exact ⟨t, u, ht, hu, htpc, htime, htlatch, htexit, huexit, hdi,
    fun h => ⟨hother h, fun hmode hp => step_takes_interrupt hmode (.inr (hother h)) hp⟩⟩

end Sys2Proof.Machine

/-!
PROOFS. A locked or stopped CPU still runs frames (O60): each tick brings the PPU a dot nearer to the end of a frame.
-/
namespace Sys2Proof.Machine

/-! ### The end of a frame -/

section
variable (p : Ppu) (vram oam : Memory)

@[simp] theorem advanceDot_frameReady : p.advanceDot.frameReady = p.frameReady := by
  unfold Ppu.advanceDot
  split <;> rfl

@[simp] theorem advanceDot_mode : p.advanceDot.mode = p.mode := by
  unfold Ppu.advanceDot
  split <;> rfl

/-- R606: only entering mode 1 sets `frame_ready`. -/
theorem enterMode_frameReady (m : PpuMode) :
    (p.enterMode vram oam m).frameReady = (p.frameReady || decide (m = .vblank)) := by
  cases m with
  | vblank => exact (Bool.or_true _).symm
  | _ => exact (Bool.or_false _).symm

/-- R603, R606: a mode change sets `frame_ready` when the PPU was not in mode 1 and now is. -/
theorem changeMode_frameReady :
    (p.changeMode vram oam).frameReady =
      (p.frameReady || (decide (modeOf p.ly.toNat p.dot = .vblank) && decide (p.mode ≠ .vblank))) := by
  unfold Ppu.changeMode
  dsimp only
  split
  case isTrue h => simp [h]
  case isFalse h =>
    rw [enterMode_frameReady]
    by_cases hm : modeOf p.ly.toNat p.dot = .vblank
    · have hne : p.mode ≠ .vblank := hm ▸ Ne.symm h
      simp [hm, hne]
    · simp [hm]

/-- R603, R606: with the LCD on, a tick sets `frame_ready` when it enters mode 1. -/
theorem tick_frameReady_on (hon : p.lcdOn = true) :
    (p.tick vram oam).frameReady = (p.frameReady || p.entersVblank) := by
  rw [Ppu.tick, if_pos hon, Ppu.entersVblank, hon, Bool.true_and]
  refine (changeMode_frameReady p.advanceDot vram oam).trans ?_
  rw [advanceDot_frameReady, advanceDot_mode]

/-- R604: with the LCD off, a tick counts the dots of a frame. -/
theorem tick_off (hoff : p.lcdOn = false) : p.tick vram oam = p.lcdOffTick := by
  rw [Ppu.tick, hoff]; rfl

/-- R605: with the LCD on, a tick advances the position in the frame. -/
theorem tick_position (h : p.Legal) (hon : p.lcdOn = true) :
    (p.tick vram oam).position = (p.position + 1) % Config.dotsPerFrame := by
  obtain ⟨-, -, hpos, -⟩ := advanceDot_spec p h.ly h.dot
  obtain ⟨-, hly, hdot, -⟩ := changeMode_spec p.advanceDot vram oam
  rw [Ppu.tick, if_pos hon]
  show (p.advanceDot.changeMode vram oam).position = _
  rw [Ppu.position, hly, hdot, hpos, Ppu.position]

variable {p}

/-- R605: the position stays in the frame. -/
theorem position_lt (h : p.Legal) : p.position < Config.dotsPerFrame := by
  have hly : p.ly.toNat < 154 := h.ly
  have hdot : p.dot < 456 := h.dot
  show p.ly.toNat * 456 + p.dot < 70224
  omega

/-- R601, R603: the tick from the last dot of the visible lines enters mode 1. -/
theorem entersVblank_of_position (h : p.Legal) (hon : p.lcdOn = true)
    (hpos : p.position + 1 = Config.visibleLines * Config.dotsPerLine) : p.entersVblank = true := by
  have hdot : p.dot < 456 := h.dot
  have hpos : p.ly.toNat * 456 + p.dot + 1 = 144 * 456 := hpos
  have hly : p.ly.toNat = 143 := by omega
  have hlast : p.dot = 455 := by omega
  have hmode : p.mode = .hblank := by rw [(h.on hon).1, hly, hlast]; decide
  rw [Ppu.entersVblank, Ppu.advanceDot, if_pos (by rw [hlast]; decide), hon, hmode, hly]
  rfl

/-! ### The dots that are left of a frame -/

/-- R604 to R606: the dots until `frame_ready` is set: none once it is set; with the LCD on, those until the position
where Vblank begins; with the LCD off, those until a whole frame is counted. -/
def Ppu.dotsLeft (p : Ppu) : Nat :=
  if p.frameReady then 0
  else if p.lcdOn then
    Config.dotsPerFrame -
      (p.position + (Config.dotsPerFrame - Config.visibleLines * Config.dotsPerLine)) % Config.dotsPerFrame
  else Config.dotsPerFrame - p.lcdOffDots

theorem dotsLeft_ready (h : p.frameReady = true) : p.dotsLeft = 0 := if_pos h

theorem dotsLeft_on (hr : p.frameReady = false) (hon : p.lcdOn = true) :
    p.dotsLeft = 70224 - (p.position + 4560) % 70224 := by
  rw [Ppu.dotsLeft, hr, hon]; rfl

theorem dotsLeft_off (hr : p.frameReady = false) (hoff : p.lcdOn = false) : p.dotsLeft = 70224 - p.lcdOffDots := by
  rw [Ppu.dotsLeft, hr, hoff]; rfl

theorem dotsLeft_le (p : Ppu) : p.dotsLeft ≤ Config.dotsPerFrame := by
  unfold Ppu.dotsLeft
  split
  · exact Nat.zero_le _
  · split <;> exact Nat.sub_le _ _

/-- R605: a frame that has not ended has a dot left. -/
theorem dotsLeft_pos (h : p.Legal) (hr : p.frameReady = false) : 0 < p.dotsLeft := by
  cases hon : p.lcdOn with
  | true => rw [dotsLeft_on hr hon]; omega
  | false =>
    have hoff : p.lcdOffDots < 70224 := h.lcdOffDots
    rw [dotsLeft_off hr hon]
    omega

/-- R603, R605: with the LCD on, a tick that does not end the frame uses up a dot. -/
theorem dotsLeft_tick_on (h : p.Legal) (hon : p.lcdOn = true) (hr : (p.tick vram oam).frameReady = false) :
    (p.tick vram oam).dotsLeft = p.dotsLeft - 1 := by
  obtain ⟨-, hlcdc, -⟩ := ppu_tick_legal p vram oam h
  have hon' : (p.tick vram oam).lcdOn = true := (congrArg (·.getLsbD 7) hlcdc).trans hon
  obtain ⟨hr', henters⟩ := Bool.or_eq_false_iff.1 ((tick_frameReady_on p vram oam hon).symm.trans hr)
  have hpos : p.position + 1 ≠ 65664 := fun hpos => by simp [entersVblank_of_position h hon hpos] at henters
  have hlt : p.position < 70224 := position_lt h
  rw [dotsLeft_on hr hon', dotsLeft_on hr' hon, tick_position p vram oam h hon, Config.dotsPerFrame]
  omega

/-- R604: with the LCD off, so does a tick that does not end the frame. -/
theorem dotsLeft_tick_off (hoff : p.lcdOn = false) (hr : (p.tick vram oam).frameReady = false) :
    (p.tick vram oam).dotsLeft = p.dotsLeft - 1 := by
  rw [tick_off p vram oam hoff] at hr ⊢
  unfold Ppu.lcdOffTick at hr ⊢
  split at hr
  case isTrue => cases hr
  case isFalse hend =>
    have hr' : p.frameReady = false := hr
    rw [if_neg hend, dotsLeft_off hr hoff, dotsLeft_off hr' hoff]
    exact Nat.sub_add_eq 70224 p.lcdOffDots 1

/-- R603, R604: a tick uses up a dot, if the frame has one left. -/
theorem dotsLeft_tick (h : p.Legal) : (p.tick vram oam).dotsLeft ≤ p.dotsLeft - 1 := by
  cases hr : (p.tick vram oam).frameReady with
  | true => exact (dotsLeft_ready hr).trans_le (Nat.zero_le _)
  | false =>
    cases hon : p.lcdOn with
    | true => exact (dotsLeft_tick_on vram oam h hon hr).le
    | false => exact (dotsLeft_tick_off vram oam hon hr).le

end

/-- R691: ticks use up as many dots, if the frame has so many left. -/
theorem dotsLeft_tickN {s : State} (h : s.ppu.Legal) (n : Nat) :
    (State.tickN n s).ppu.dotsLeft ≤ s.ppu.dotsLeft - n := by
  induction n generalizing s with
  | zero => exact le_rfl
  | succ n ih =>
    obtain ⟨hlegal, -⟩ := ppu_tick_legal s.ppu s.vram s.oam h
    have hrest : (State.tickN n s.tick).ppu.dotsLeft ≤ (s.ppu.tick s.vram s.oam).dotsLeft - n := ih hlegal
    have hfirst := dotsLeft_tick s.vram s.oam h
    rw [State.tickN]
    omega

/-! ### Frames of a locked or stopped CPU -/

/-- R530: a locked or stopped CPU executes nothing, and the devices tick by 4. -/
theorem step_of_locked_or_stopped {s : State} (hm : s.cpu.mode = .locked ∨ s.cpu.mode = .stopped) :
    ∃ x, step s = .next (State.tickN 4 (s.matureEi.returns 4 x)) := by
  rcases hm with hm | hm
  · exact ⟨.locked, step_idle (by rw [State.nextEvent, matureEi_mode, hm])⟩
  · exact ⟨.stopped, step_idle (by rw [State.nextEvent, matureEi_mode, hm])⟩

/-- R691: a step of such a CPU keeps its mode and the invariant, and uses up four dots of the frame. -/
theorem step_uses_dots {s : State} (hs : s.Inv) (hm : s.cpu.mode = .locked ∨ s.cpu.mode = .stopped) :
    ∃ t, step s = .next t ∧ t.Inv ∧ t.cpu.mode = s.cpu.mode ∧ t.ppu.dotsLeft ≤ s.ppu.dotsLeft - 4 := by
  obtain ⟨x, hx⟩ := step_of_locked_or_stopped hm
  have hppu : (s.matureEi.returns 4 x).ppu = s.ppu := by rw [returns_ppu, matureEi_eq]
  refine ⟨_, hx, invariantKeptByStep s _ hs hx, ?_, ?_⟩
  · rw [tickN_cpu, returns_cpu, matureEi_mode]
  · rw [← hppu]
    exact dotsLeft_tickN (hppu ▸ hs.ppu) 4

/-- R691, R699: the loop of `run_frame` ends once its steps cover the dots that are left. -/
theorem frameLoop_ends {fuel : Nat} {s : State} (hs : s.Inv) (hm : s.cpu.mode = .locked ∨ s.cpu.mode = .stopped)
    (hr : s.ppu.frameReady = false) (hd : s.ppu.dotsLeft ≤ 4 * fuel) :
    ∃ t, State.frameLoop fuel s = some t ∧ t.ppu.frameReady = true ∧ t.cpu.mode = s.cpu.mode ∧ t.Inv := by
  induction fuel generalizing s with
  | zero => exact absurd hd (Nat.not_le_of_gt (dotsLeft_pos hs.ppu hr))
  | succ fuel ih =>
    obtain ⟨t, ht, hinv, hmode, hdots⟩ := step_uses_dots hs hm
    have hloop : State.frameLoop (fuel + 1) s = if t.ppu.frameReady then some t else State.frameLoop fuel t := by
      rw [State.frameLoop, show advance s = .next t from ht]
    rw [hloop]
    cases hready : t.ppu.frameReady with
    | true => exact ⟨t, rfl, hready, hmode, hinv⟩
    | false =>
      rw [← hmode] at hm ⊢
      exact ih hinv hm hready (by omega)

/-- R691: clearing `frame_ready` keeps the invariant. -/
theorem clearFrameReady_inv {s : State} (hs : s.Inv) :
    State.Inv { s with ppu := { s.ppu with frameReady := false } } := by
  obtain ⟨⟨hvram, hwram, hoam, hhram, hrom, hsram, hframe⟩, hcart, ⟨hlatch, hlocked, hnop⟩, hreload,
    ⟨hly, hdot, hdots, hon, hoff⟩⟩ := hs
  exact ⟨⟨hvram, hwram, hoam, hhram, hrom, hsram, hframe⟩, hcart, ⟨hlatch, hlocked, hnop⟩, hreload,
    ⟨hly, hdot, hdots, hon, hoff⟩⟩

/-- Settles O60: 17,556 steps cover the dots of a whole frame. -/
theorem lockedOrStoppedCoreRunsFrames : Obligations.LockedOrStoppedCoreRunsFrames :=
  fun _ hs hm => frameLoop_ends (clearFrameReady_inv hs) hm rfl (dotsLeft_le _)

end Sys2Proof.Machine

/-!
PROOFS. The statements about interrupts, exceptions and the forms of a step: interrupt service (O33), the devices'
requests (O59), the unassigned opcodes (O31), a step that runs an instruction (O32) and one that executes nothing (O35).
-/
namespace Sys2Proof.Machine

/-! ### Interrupt service -/

/-- R526: the vector of an interrupt, as a number. -/
theorem vector_eq (i : Interrupt) : i.vector = BitVec.ofNat 16 (0x0040 + 8 * i.bit) := by cases i <;> rfl

/-- R525, R530: the lowest pending bit is the event of a step whose IME is set or matures. -/
theorem nextEvent_matureEi_service {s : State} {i : Interrupt} (hm : s.cpu.mode = .running ∨ s.cpu.mode = .halted)
    (hi : s.cpu.ime = true ∨ s.cpu.eiDelay = 1) (hp : s.pending.getLsbD i.bit = true)
    (hl : ∀ j : Interrupt, j.bit < i.bit → s.pending.getLsbD j.bit = false) : s.matureEi.nextEvent = .service i :=
  nextEvent_service s.matureEi i (by rwa [matureEi_mode]) (by simpa using hi) (by rwa [matureEi_pending])
    (by rwa [matureEi_pending])

/-- R660: IF is at one offset of the I/O range. -/
theorem ioRegAt_eq_intFlag : ∀ off < 0x80, ioRegAt off = .intFlag → off = 0x0F := by decide

/-- R151: IF is read at its own address alone. -/
theorem eq_of_regionOf_intFlag {a : Word} (h : regionOf a = .io .intFlag) : a = 0xFF0F#16 := by
  unfold regionOf at h
  split_ifs at h with h1 h2 h3 h4 h5 h6 h7 h8
  have hoff := ioRegAt_eq_intFlag (a.toNat % 0x100) (by omega) (Region.io.inj h)
  bv_omega

/-- R151: a read sees IF at its own address alone; it sees neither the CPU nor the host's side. -/
theorem read_withIntFlag (s : State) (c : Cpu) (f : BitVec 5) (x : HostSide) {a : Word} (ha : a ≠ 0xFF0F#16) :
    State.read { s with cpu := c, intFlag := f, host := x } a = s.read a := by
  unfold State.read
  cases hr : regionOf a with
  | io r =>
    cases r with
    | intFlag => exact absurd (eq_of_regionOf_intFlag hr) ha
    | _ => rfl
  | _ => rfl

/-- R153, R155, R157, R159: IF is no byte of RAM. -/
theorem ne_intFlag_of_isRam {s : State} {a : Word} (h : s.isRam a = true) : a ≠ 0xFF0F#16 := by
  rintro rfl
  exact absurd h (by nofun)

/-- R11, R150: the bus writes of a push do not look at the CPU. -/
theorem push16_withCpu (s : State) (c : Cpu) (v : Word) :
    State.push16 { s with cpu := c } v =
      { (s.write (c.sp - 1#16) (highByte v)).write (c.sp - 2#16) (lowByte v) with
        cpu := { c with sp := c.sp - 2#16 } } := by
  rw [push16_eq, write_withCpu s, write_withCpu (s.write _ _)]
  rfl

/-- R532: interrupt entry pushes PC, clears IF's bit, IME and the EI latch, and goes to the vector. -/
theorem service_withCpu (s : State) (c : Cpu) (i : Interrupt) :
    let pushed := (s.write (c.sp - 1#16) (highByte c.pc)).write (c.sp - 2#16) (lowByte c.pc)
    State.service { s with cpu := c } i =
      { pushed with
        cpu := { c with sp := c.sp - 2#16, ime := false, eiDelay := 0, pc := i.vector }
        intFlag := pushed.intFlag &&& ~~~i.mask } := by
  intro pushed
  unfold State.service
  rw [push16_withCpu]
  rfl

/-- R532: the state whose devices tick after interrupt entry, from the two bus writes of the push. -/
theorem service_matureEi_wake (s : State) (i : Interrupt) :
    let pushed := (s.write (s.sp - 1#16) (highByte s.pc)).write (s.sp - 2#16) (lowByte s.pc)
    s.matureEi.wake.service i =
      { pushed with
        cpu :=
          { s.cpu with
            sp := s.sp - 2#16
            pc := BitVec.ofNat 16 (0x0040 + 8 * i.bit)
            ime := false
            eiDelay := 0
            mode := .running }
        intFlag := pushed.intFlag &&& ~~~(1#5 <<< i.bit) } := by
  rw [matureEi_eq, ← vector_eq]
  exact service_withCpu s _ i

/-- R11: the second byte a push writes to a stack in RAM does not reach the first. -/
theorem writeReaches_push {s : State} (hc : s.cart.Legal) (h : s.isRam (s.sp - 2#16) = true) :
    s.writeReaches (s.sp - 2#16) (s.sp - 1#16) = false := by
  have hnext : s.sp - 2#16 + 1#16 = s.sp - 1#16 := by bv_omega
  exact hnext ▸ writeReaches_next hc h

/-- Settles O33: the event of the step is the service of `i`, whose two bus writes have the frame of a push; beside them
only IF's own address can read otherwise. -/
theorem stepServicesInterrupt : Obligations.StepServicesInterrupt := by
  intro s i hm hi hp hl once pushed
  have hframe : StoreTwoFrame (s.sp - 1#16) (highByte s.pc) (s.sp - 2#16) (lowByte s.pc) s pushed :=
    storeTwoFrame_of_writes s _ _ _ _ _ rfl fun _ => rfl
  refine ⟨_, step_service (nextEvent_matureEi_service hm hi hp hl), rfl, rfl, ?_⟩
  rw [service_matureEi_wake]
  refine ⟨rfl, rfl, rfl, fun b h1 h2 hb => ?_, fun hs h1 h2 => ?_⟩
  · exact (read_withIntFlag pushed _ _ _ hb).trans (hframe.reads b h1 h2)
  · obtain ⟨hhigh, hlow⟩ := hframe.stored hs.memory h1 h2 (writeReaches_push hs.cart h2)
    exact ⟨(read_withIntFlag pushed _ _ _ (ne_intFlag_of_isRam h1)).trans hhigh,
      (read_withIntFlag pushed _ _ _ (ne_intFlag_of_isRam h2)).trans hlow⟩

/-! ### Requests of the devices -/

/-- R523: IF with requests added, none of them Serial's (bit 3) or Joypad's (bit 4). -/
def Raises (before after : BitVec 5) : Prop :=
  ∃ m : BitVec 5, after = before ||| m ∧ m.getLsbD 3 = false ∧ m.getLsbD 4 = false

theorem Raises.refl (p : BitVec 5) : Raises p p := ⟨0#5, BitVec.or_zero.symm, rfl, rfl⟩

theorem Raises.trans {p q r : BitVec 5} (h : Raises p q) (h' : Raises q r) : Raises p r := by
  obtain ⟨m, rfl, h3, h4⟩ := h
  obtain ⟨m', rfl, h3', h4'⟩ := h'
  exact ⟨m ||| m', BitVec.or_assoc .., by rw [BitVec.getLsbD_or, h3, h3', Bool.or_false],
    by rw [BitVec.getLsbD_or, h4, h4', Bool.or_false]⟩

/-- R523: a request of Vblank, LCD or Timer, raised or not, adds at most its own bit. -/
theorem request_raises (s : State) {i : Interrupt} (raised : Bool) (h3 : i.mask.getLsbD 3 = false)
    (h4 : i.mask.getLsbD 4 = false) : Raises s.intFlag (s.request i raised).intFlag := by
  cases raised with
  | true => exact ⟨i.mask, rfl, h3, h4⟩
  | false => exact .refl s.intFlag

theorem tickTimer_raises (s : State) : Raises s.intFlag s.tickTimer.intFlag :=
  request_raises { s with timer := s.timer.tick } (i := .timer) s.timer.reloads rfl rfl

theorem tickPpu_raises (s : State) : Raises s.intFlag s.tickPpu.intFlag :=
  let ticked : State := { s with ppu := s.ppu.tick s.vram s.oam }
  (request_raises ticked (i := .vblank) s.ppu.entersVblank rfl rfl).trans
    (request_raises (ticked.request .vblank s.ppu.entersVblank) (i := .lcd) (s.ppu.statRises s.vram s.oam) rfl rfl)

/-- R691, R692: so do ticks in a row, each of the timer and then the PPU. -/
theorem tickN_raises (s : State) (n : Nat) : Raises s.intFlag (State.tickN n s).intFlag := by
  induction n generalizing s with
  | zero => exact .refl s.intFlag
  | succ n ih => exact ((tickTimer_raises s).trans (tickPpu_raises s.tickTimer)).trans (ih s.tick)

/-- Settles O59: by the bits of the requests raised; what else a tick writes is the timer and the PPU. -/
theorem ticksOnlyRaiseRequests : Obligations.TicksOnlyRaiseRequests := by
  intro s n t
  obtain ⟨m, hm, h3, h4⟩ := tickN_raises s n
  have hbit (k : Nat) : t.intFlag.getLsbD k = (s.intFlag.getLsbD k || m.getLsbD k) := by
    rw [hm, BitVec.getLsbD_or]
  refine ⟨fun i hi => ?_, ?_, ?_, ?_⟩
  · rw [hbit, hi, Bool.true_or]
  · rw [hbit, h3, Bool.or_false]
  · rw [hbit, h4, Bool.or_false]
  · rw [show t = _ from tickN_eq s n]

/-! ### The unassigned opcodes -/

/-- R505: ILLEGAL under `Lock`. -/
theorem exec_illegal_lock {s : State} (op : Byte) (h : s.illegalMode = .lock) :
    exec (.illegal op) s = .next ((s.raiseIllegalOpcode (s.pc - 1#16) op).took 4) := by
  show illegalOpcode op s = _
  rw [illegalOpcode, h]

/-- R505: ILLEGAL under `Nop`. -/
theorem exec_illegal_nop {s : State} (op : Byte) (h : s.illegalMode = .nop) :
    exec (.illegal op) s = .next (s.took 4) := by
  show illegalOpcode op s = _
  rw [illegalOpcode, h]

/-- R520: writing the mode and the fault record leaves the registers, the flags, IME, the EI latch and everything
outside the CPU. -/
theorem setFault_leaves (s : State) (mode : CpuMode) (record : Option IllegalOpcode) (n : Nat) :
    let t := State.took { s with cpu := { s.cpu with mode := mode, faultRecord := record } } n
    t.flags = s.flags ∧ SameRegisters [] s t ∧ t.cpu.ime = s.cpu.ime ∧ t.cpu.eiDelay = s.cpu.eiDelay ∧
      SameOutside s t ∧ SameReads s t :=
  ⟨rfl, ⟨fun _ _ => rfl, rfl, rfl⟩, rfl, rfl, rfl, fun _ => rfl⟩

/-- Settles O31: at most the mode and the fault record are written. The name is qualified since the model calls the list
of these bytes `unassignedOpcodes`. -/
theorem Exceptions.unassignedOpcodes : Obligations.UnassignedOpcodes := by
  intro op s _ leaves
  refine ⟨fun hlock => completes_of_exec rfl (exec_illegal_lock op hlock) ?_,
    fun hnop => completes_of_exec rfl (exec_illegal_nop op hnop) ?_⟩
  · exact ⟨setFault_leaves s .locked (some { pc := s.pc - 1#16, op := op }) 4, rfl, rfl⟩
  · exact ⟨setFault_leaves s s.cpu.mode s.cpu.faultRecord 4, rfl, rfl⟩

/-! ### A step that takes no interrupt -/

/-- R250: three bytes always decode, to an instruction whose encoding has the length of its opcode's format. -/
theorem decode_three {b0 b1 b2 : Byte} {i : Instr} {rest : List Byte} (h : decode [b0, b1, b2] = .ok (i, rest)) :
    decodeBytes b0 b1 b2 = i ∧ (encode i).length = opcodeLength b0 := by
  have hle : opcodeLength b0 ≤ 3 := by
    obtain hl | hl | hl := opcodeLength_cases b0 <;> omega
  rw [decode_of_length_le hle] at h
  cases h
  exact ⟨rfl, (congrArg List.length (encode_decodeBytes b0 b1 b2)).trans (List.length_take_of_le hle)⟩

/-- R53, R530: the state that the fetched instruction runs on, field by field. -/
theorem fetched_eq (s : State) :
    s.fetched =
      { s with
        cpu :=
          { s.cpu with
            mode := .running
            ime := s.cpu.ime || decide (s.cpu.eiDelay = 1)
            eiDelay := s.cpu.eiDelay - 1
            pc := s.pc + BitVec.ofNat 16 (opcodeLength (s.read s.pc)) } } := by
  rw [← fetched_pc, State.fetched, State.pastInstr, matureEi_eq]
  rfl

/-- Settles O32: the event of the step is the fetch, and `exec` always answers a next state. -/
theorem stepRunsDecodedInstruction : Obligations.StepRunsDecodedInstruction := by
  intro s i rest hm hi hdecode fetched
  obtain ⟨hdecoded, hlength⟩ := decode_three hdecode
  have hinstr : s.matureEi.wake.instrAtPc = i := (instrAtPc_wake_matureEi s).trans hdecoded
  have hfetched : s.fetched = fetched := by rw [fetched_eq, ← hlength]
  have hevent : s.matureEi.nextEvent = .fetch := nextEvent_fetch s.matureEi (by simpa using hm) (by simpa using hi)
  obtain ⟨t, ht, -⟩ := exec_effect i fetched
  refine ⟨t, ht, ?_⟩
  rw [← hinstr, ← hfetched] at ht
  exact step_fetch hevent ht

/-- Settles O35: the event of the step is an idle one, after which only the EI latch and the returned values differ. -/
theorem idleStepsExecuteNothing : Obligations.IdleStepsExecuteNothing := by
  intro s exit h
  have hevent : s.matureEi.nextEvent = .idle exit := by
    rw [State.nextEvent, matureEi_mode, matureEi_pending]
    obtain ⟨hm, rfl⟩ | ⟨hm, rfl⟩ | ⟨hm, hp, rfl⟩ := h
    · rw [hm]
    · rw [hm]
    · rw [hm]; exact if_pos hp
  refine ⟨_, step_idle hevent, ?_, ?_, ?_⟩
  · rw [tickN_cpu, returns_cpu, matureEi_mode]
  · rw [tickN_pc, returns_pc, matureEi_pc]
  · rw [matureEi_eq]
    rfl

end Sys2Proof.Machine

/-!
PROOFS. The timer: one tick (O49), the CPU's writes to its registers (O50) and a whole period of ticks (O51). The
selected bit of the counter is its half-period, so the timer's signal and its falling edge are arithmetic on the period.
-/
namespace Sys2Proof.Machine

/-! ### The signal and its falling edge -/

/-- R573: the period is twice the weight of the selected bit. -/
theorem period_eq_two_pow : ∀ tac : BitVec 3, Timer.period tac = 2 ^ Timer.selectedBit tac * 2 := by decide

/-- R573: the four periods. -/
theorem period_cases (tac : BitVec 3) :
    Timer.period tac = 1024 ∨ Timer.period tac = 16 ∨ Timer.period tac = 64 ∨ Timer.period tac = 256 := by
  unfold Timer.period
  split <;> simp

/-- A bit of a number is set in the second half of its period. -/
theorem testBit_eq_half_period (n k : Nat) : n.testBit k = decide (2 ^ k * 2 ≤ 2 * (n % (2 ^ k * 2))) := by
  rw [Nat.testBit_eq_decide_div_mod_eq, Nat.mod_mul]
  refine decide_eq_decide.2 ?_
  have hlow : n % 2 ^ k < 2 ^ k := Nat.mod_lt n (Nat.two_pow_pos k)
  rcases Nat.mod_two_eq_zero_or_one (n / 2 ^ k) with h | h <;> rw [h] <;> omega

/-- R573: the timer's signal, on the counter as a number. -/
def Timer.signalAt (tac : BitVec 3) (counter : Nat) : Bool :=
  tac.getLsbD 2 && decide (Timer.period tac ≤ 2 * (counter % Timer.period tac))

theorem signal_eq (t : Timer) : t.signal = Timer.signalAt t.tac t.divCounter.toNat := by
  rw [Timer.signal, Timer.signalAt, period_eq_two_pow, ← testBit_eq_half_period]
  rfl

/-- R570, R573: whether the enabled counter reaches a multiple of its period in this tick. -/
def Timer.endsPeriod (t : Timer) : Bool :=
  t.tac.getLsbD 2 && decide ((t.divCounter.toNat + 1) % Timer.period t.tac = 0)

/-- R570, R573: the signal falls exactly at the end of a period. -/
theorem signal_falls_eq (t : Timer) :
    (t.signal && !Timer.signal { t with divCounter := t.divCounter + 1#16 }) = t.endsPeriod := by
  rw [signal_eq, signal_eq, Timer.endsPeriod]
  unfold Timer.signalAt
  cases t.tac.getLsbD 2 with
  | false => rfl
  | true =>
    simp only [Bool.true_and, ← decide_not, ← Bool.decide_and, BitVec.toNat_add, BitVec.toNat_ofNat]
    refine decide_eq_decide.2 ?_
    rcases period_cases t.tac with h | h | h | h <;> rw [h] <;> omega

/-! ### One tick -/

/-- R574: TIMA counts up modulo 256, and its overflow starts the reload delay. -/
theorem incTima_eq (t : Timer) :
    t.incTima =
      { t with tima := t.tima + 1#8, reloadDelay := if t.tima = 0xFF#8 then 4 else t.reloadDelay } := by
  unfold Timer.incTima
  split
  case isTrue h => rw [h]; rfl
  case isFalse => rfl

/-- R570: the reload part of a tick. -/
theorem countReload_eq (t : Timer) :
    t.countReload =
      { t with tima := if t.reloads then t.tma else t.tima, reloadDelay := t.reloadDelay - 1 } := by
  unfold Timer.countReload
  split
  case isTrue h =>
    have hdelay : t.reloadDelay = 1 := of_decide_eq_true h
    rw [hdelay]
  case isFalse => rfl

/-- R570: the counter part of a tick. -/
theorem countDiv_eq (t : Timer) :
    t.countDiv =
      { t with
        divCounter := t.divCounter + 1#16
        tima := if t.endsPeriod then t.tima + 1#8 else t.tima
        reloadDelay := if t.endsPeriod && decide (t.tima = 0xFF#8) then 4 else t.reloadDelay } := by
  rw [Timer.countDiv, Timer.onFallingEdge, signal_falls_eq, incTima_eq]
  cases t.endsPeriod with
  | false => rfl
  | true => simp

/-- R570: one tick of the timer. -/
theorem timer_tick_eq (t : Timer) :
    t.tick =
      { t with
        divCounter := t.divCounter + 1#16
        tima :=
          if t.endsPeriod then (if t.reloads then t.tma else t.tima) + 1#8 else if t.reloads then t.tma else t.tima
        reloadDelay :=
          if t.endsPeriod && decide ((if t.reloads then t.tma else t.tima) = 0xFF#8) then 4
          else t.reloadDelay - 1 } := by
  rw [Timer.tick, countDiv_eq, countReload_eq]
  rfl

/-- Settles O49: the tick of the timer, whose reload requests the interrupt. -/
theorem timerTick : Obligations.TimerTick := by
  intro s t reloads tima falls
  rw [State.tickTimer, timer_tick_eq]
  rfl

/-! ### Register writes -/

/-- R570 to R572: an increment is made when the signal was 1 and now is 0. -/
theorem onFallingEdge_eq (old : Bool) (t : Timer) :
    Timer.onFallingEdge old t =
      if old && !Timer.signalAt t.tac t.divCounter.toNat then t.incTima else t := by
  rw [Timer.onFallingEdge, signal_eq]

/-- R571: a counter of 0 has no signal. -/
theorem signalAt_zero (tac : BitVec 3) : Timer.signalAt tac 0 = false := by
  unfold Timer.signalAt
  rcases period_cases tac with h | h | h | h <;> simp [h]

/-- Settles O50: DIV and TAC make a falling edge of the signal; TIMA and TMA are stored. -/
theorem timerRegisterWrites : Obligations.TimerRegisterWrites := by
  intro s v t signal stepped
  have hdiv : t.writeDiv = stepped (signal t.tac t.divCounter.toNat) { t with divCounter := 0x0000#16 } := by
    rw [Timer.writeDiv, onFallingEdge_eq, signal_eq]
    show (if _ && !Timer.signalAt t.tac 0 then _ else _) = _
    rw [signalAt_zero, Bool.not_false, Bool.and_true]
    rfl
  have htac : t.writeTac v =
      stepped (signal t.tac t.divCounter.toNat && !signal (BitVec.ofNat 3 v.toNat) t.divCounter.toNat)
        { t with tac := BitVec.ofNat 3 v.toNat } := by
    rw [Timer.writeTac, onFallingEdge_eq, signal_eq]
    rfl
  exact ⟨congrArg (fun t => { s with timer := t }) hdiv, congrArg (fun t => { s with timer := t }) htac, rfl, rfl⟩

/-! ### A whole period -/

/-- R570, R573: the timer after some ticks of one period, with no reload and no overflow in them: TIMA has counted up if
a multiple of the period has been reached. -/
def Timer.afterTicks (t : Timer) (k : Nat) : Timer :=
  { t with
    divCounter := t.divCounter + BitVec.ofNat 16 k
    tima := if Timer.period t.tac ≤ t.divCounter.toNat % Timer.period t.tac + k then t.tima + 1#8 else t.tima }

section
variable {t : Timer} {k : Nat} (he : t.tac.getLsbD 2 = true) (hk : k < Timer.period t.tac)

include he hk in
/-- R573: the period ends in the tick that brings the counter to its multiple. -/
theorem afterTicks_endsPeriod :
    (t.afterTicks k).endsPeriod =
      decide (t.divCounter.toNat % Timer.period t.tac + k + 1 = Timer.period t.tac) := by
  simp only [Timer.endsPeriod, Timer.afterTicks, he, Bool.true_and, BitVec.toNat_add, BitVec.toNat_ofNat]
  refine decide_eq_decide.2 ?_
  rcases period_cases t.tac with h | h | h | h <;> rw [h] at hk ⊢ <;> omega

include he hk in
/-- R570: each tick of the period leads to the next of these timers; TIMA, not at 0xFF, does not overflow. -/
theorem tick_afterTicks (hr : t.reloadDelay = 0) (hf : t.tima ≠ 0xFF#8) :
    (t.afterTicks k).tick = t.afterTicks (k + 1) := by
  have hreloads : (t.afterTicks k).reloads = false := by
    rw [Timer.reloads, show (t.afterTicks k).reloadDelay = 0 from hr]
    rfl
  have hcounter : t.divCounter + BitVec.ofNat 16 k + 1#16 = t.divCounter + BitVec.ofNat 16 (k + 1) := by
    rw [BitVec.add_assoc, BitVec.ofNat_add]
  have hlow : t.divCounter.toNat % Timer.period t.tac < Timer.period t.tac :=
    Nat.mod_lt _ (Nat.zero_lt_of_lt hk)
  rw [timer_tick_eq, hreloads, afterTicks_endsPeriod he hk]
  simp only [Bool.false_eq_true, if_false]
  unfold Timer.afterTicks
  dsimp only
  rw [hcounter, hr]
  by_cases hend : t.divCounter.toNat % Timer.period t.tac + k + 1 = Timer.period t.tac
  · have hbefore : ¬ Timer.period t.tac ≤ t.divCounter.toNat % Timer.period t.tac + k := by omega
    have hafter : Timer.period t.tac ≤ t.divCounter.toNat % Timer.period t.tac + (k + 1) := by omega
    simp [hend, hbefore, hafter, hf]
  · have hsame : Timer.period t.tac ≤ t.divCounter.toNat % Timer.period t.tac + (k + 1) ↔
        Timer.period t.tac ≤ t.divCounter.toNat % Timer.period t.tac + k := by omega
    simp [hend, hsame]

include he in
/-- R570: ticks in a row, up to a whole period. -/
theorem iterate_tick_eq_afterTicks (hr : t.reloadDelay = 0) (hf : t.tima ≠ 0xFF#8) (hk : k ≤ Timer.period t.tac) :
    Timer.tick^[k] t = t.afterTicks k := by
  induction k with
  | zero =>
    have hlow : t.divCounter.toNat % Timer.period t.tac < Timer.period t.tac :=
      Nat.mod_lt _ (by rw [period_eq_two_pow]; positivity)
    rw [Timer.afterTicks, Nat.add_zero, if_neg (Nat.not_le_of_gt hlow), BitVec.add_zero]
    rfl
  | succ k ih =>
    rw [Function.iterate_succ_apply', ih (Nat.le_of_succ_le hk)]
    exact tick_afterTicks he hk hr hf

end

/-- Settles O51: by a whole period of ticks the counter has passed exactly one multiple of the period. -/
theorem timaCountsOncePerPeriod : Obligations.TimaCountsOncePerPeriod := by
  intro t he hr hf
  rw [iterate_tick_eq_afterTicks he hr hf le_rfl, Timer.afterTicks, if_pos (Nat.le_add_left _ _)]

end Sys2Proof.Machine

/-!
PROOFS. The dots of the PPU: its position in the frame (O52), its interrupt requests (O53), the LCD's switch and the
dots with the LCD off (O54), and the dot that draws a line (O55).
-/
namespace Sys2Proof.Machine

/-! ### The frame -/

/-- R603: a tick leaves the LCD on. -/
theorem tick_lcdOn {p : Ppu} (h : p.Legal) (vram oam : Memory) : (p.tick vram oam).lcdOn = p.lcdOn := by
  obtain ⟨-, hlcdc, -⟩ := ppu_tick_legal p vram oam h
  exact congrArg (·.getLsbD 7) hlcdc

/-- R603, R605: with the LCD on, ticks in a row advance the position in the frame. -/
theorem tickN_position {s : State} (h : s.ppu.Legal) (hon : s.ppu.lcdOn = true) (n : Nat) :
    (State.tickN n s).ppu.lcdOn = true ∧ (State.tickN n s).ppu.Legal ∧
      (State.tickN n s).ppu.position = (s.ppu.position + n) % Config.dotsPerFrame := by
  induction n generalizing s with
  | zero =>
    refine ⟨hon, h, ?_⟩
    rw [Nat.add_zero, Nat.mod_eq_of_lt (position_lt h)]
    rfl
  | succ n ih =>
    obtain ⟨hlegal, -⟩ := ppu_tick_legal s.ppu s.vram s.oam h
    obtain ⟨hon', hlegal', hpos⟩ := ih (s := s.tick) hlegal ((tick_lcdOn h s.vram s.oam).trans hon)
    have hfirst : s.tick.ppu.position = (s.ppu.position + 1) % Config.dotsPerFrame :=
      tick_position s.ppu s.vram s.oam h hon
    refine ⟨hon', hlegal', hpos.trans ?_⟩
    rw [hfirst, Nat.mod_add_mod, Nat.add_assoc, Nat.add_comm 1 n]

/-- Settles O52: by induction on the ticks; the mode of a legal PPU is that of its line and dot. -/
theorem ppuFollowsFrame : Obligations.PpuFollowsFrame := by
  intro s n h hon p
  obtain ⟨hon', hlegal, hpos⟩ := tickN_position h hon n
  exact ⟨hon', hlegal, hpos, (hlegal.on hon').1⟩

/-! ### The interrupt requests -/

/-- R601: mode 1 is that of the lines below the visible ones. -/
theorem modeOf_eq_vblank_iff {ly dot : Nat} : modeOf ly dot = .vblank ↔ Config.visibleLines ≤ ly := by
  unfold modeOf
  split_ifs with h <;> simp [h]

/-- R601, R603: the PPU of a legal state enters mode 1 at the last dot of line 143 and nowhere else. -/
theorem entersVblank_eq {p : Ppu} (h : p.Legal) (hon : p.lcdOn = true) :
    p.entersVblank = (decide (p.ly.toNat = 143) && decide (p.dot = 455)) := by
  rw [Bool.eq_iff_iff, Bool.and_eq_true, decide_eq_true_eq, decide_eq_true_eq]
  refine ⟨fun henters => ?_,
    fun ⟨hly, hdot⟩ => entersVblank_of_position h hon (by rw [Ppu.position, hly, hdot]; rfl)⟩
  simp only [Ppu.entersVblank, Bool.and_eq_true, decide_eq_true_eq] at henters
  obtain ⟨⟨-, hafter⟩, hbefore⟩ := henters
  obtain ⟨-, hdot', hpos, -⟩ := advanceDot_spec p h.ly h.dot
  have hdot : p.dot < 456 := h.dot
  have hly' : 144 ≤ p.advanceDot.ly.toNat := modeOf_eq_vblank_iff.1 hafter
  have hly : ¬ 144 ≤ p.ly.toNat := fun hly => hbefore ((h.on hon).1.trans (modeOf_eq_vblank_iff.2 hly))
  simp only [Config.dotsPerLine, Config.dotsPerFrame] at hpos hdot'
  omega

/-- R522: the mask of a source has its own bit alone. -/
theorem mask_getLsbD (i : Interrupt) : ∀ k : Fin 5, i.mask.getLsbD k = decide (k.val = i.bit) := by
  cases i <;> decide

/-- R523: a request sets the bit of its source. -/
theorem request_getLsbD (s : State) (i : Interrupt) (raised : Bool) (k : Fin 5) :
    (s.request i raised).intFlag.getLsbD k = (s.intFlag.getLsbD k || (decide (k.val = i.bit) && raised)) := by
  rw [← mask_getLsbD]
  cases raised with
  | true => rw [Bool.and_true]; exact BitVec.getLsbD_or
  | false => rw [Bool.and_false, Bool.or_false]; rfl

/-- R609: STAT's stored bits read at 6 to 3. -/
theorem read_stat_getLsbD (s : State) {k : Nat} (hk : k < 4) :
    (s.read 0xFF41#16).getLsbD (3 + k) = s.ppu.statSelect.getLsbD k := by
  show s.ppu.readStat.getLsbD (3 + k) = _
  simp (disch := omega) only [Ppu.readStat, BitVec.getLsbD_append, if_neg, if_pos]
  congr 1
  omega

/-- R603, R607: with the LCD on, a tick leaves the STAT line at its level. -/
theorem tick_statLine {p : Ppu} (vram oam : Memory) (hon : p.lcdOn = true) :
    (p.tick vram oam).statLine = (p.tick vram oam).statLevel := by
  rw [Ppu.tick, if_pos hon]
  rfl

theorem statRises_eq {p : Ppu} (vram oam : Memory) (hon : p.lcdOn = true) :
    p.statRises vram oam = (!p.statLine && (p.tick vram oam).statLevel) := by
  rw [Ppu.statRises, Ppu.tick, if_pos hon, hon, Bool.true_and]
  rfl

/-- Settles O53: the requests are those of entering mode 1 and of a rising STAT line. -/
theorem ppuInterruptRequests : Obligations.PpuInterruptRequests := by
  intro s h hon t entersVblank level
  have henters : s.ppu.entersVblank = entersVblank := entersVblank_eq h hon
  have hlevel : t.ppu.statLevel = level := by
    simp only [level, read_stat_getLsbD t (k := 0) (by decide), read_stat_getLsbD t (k := 1) (by decide),
      read_stat_getLsbD t (k := 2) (by decide), read_stat_getLsbD t (k := 3) (by decide)]
    rfl
  have hready : t.ppu.frameReady = (s.ppu.frameReady || entersVblank) :=
    henters ▸ tick_frameReady_on s.ppu s.vram s.oam hon
  refine ⟨(tick_statLine s.vram s.oam hon).trans hlevel, hready, fun hv => ?_, fun i => ?_⟩
  · simp only [entersVblank, Bool.and_eq_true, decide_eq_true_eq] at hv
    obtain ⟨hly, hdot⟩ := hv
    obtain ⟨hlegal, -⟩ := ppu_tick_legal s.ppu s.vram s.oam h
    have hpos : t.ppu.position = (s.ppu.position + 1) % Config.dotsPerFrame := tick_position s.ppu s.vram s.oam h hon
    have hdot' : t.ppu.dot < 456 := hlegal.dot
    simp only [Ppu.position, Config.dotsPerLine, Config.dotsPerFrame, hly, hdot] at hpos
    omega
  · rw [← hlevel, Bool.and_assoc, ← henters]
    show s.tickPpu.intFlag.getLsbD i = _
    rw [State.tickPpu, request_getLsbD, request_getLsbD, statRises_eq _ _ hon]
    rfl

/-! ### The LCD switched off and on -/

/-- R604: with the LCD off, a dot requests nothing and only counts towards the end of a frame. -/
theorem tickPpu_off {s : State} (hoff : s.ppu.lcdOn = false) : s.tickPpu = { s with ppu := s.ppu.lcdOffTick } := by
  have hvblank : s.ppu.entersVblank = false := by rw [Ppu.entersVblank, hoff]; rfl
  have hstat : s.ppu.statRises s.vram s.oam = false := by rw [Ppu.statRises, hoff]; rfl
  rw [State.tickPpu, hvblank, hstat, tick_off _ _ _ hoff]
  rfl

theorem lcdOffTick_eq (p : Ppu) :
    p.lcdOffTick =
      { p with
        lcdOffDots := if p.lcdOffDots + 1 = 70224 then 0 else p.lcdOffDots + 1
        frameReady := p.frameReady || decide (p.lcdOffDots + 1 = 70224) } := by
  unfold Ppu.lcdOffTick Config.dotsPerFrame
  split
  case isTrue h => simp [h]
  case isFalse h => simp [h]

/-- Settles O54: a write of LCDC by bit 7 before and after it, and a dot with the LCD off. -/
theorem lcdSwitchAndOffDots : Obligations.LcdSwitchAndOffDots := by
  refine ⟨?_, fun s hoff => ?_⟩
  · intro s v p t
    have ht : t = { s with ppu := p.writeLcdc v } := rfl
    rw [ht, writeLcdc_cases, Ppu.lcdOn]
    refine ⟨fun hp hv => ?_, fun hp hv => ?_, fun hpv => ?_⟩
    · rw [hp, hv]
    · rw [hp, hv]
    · rw [hpv]
      cases v.getLsbD 7 <;> rfl
  · rw [tickPpu_off hoff, lcdOffTick_eq]

/-! ### The dot that draws a line -/

/-- R610: what the framebuffer holds after some pixels in a row have been written to it. -/
theorem read_writeRow (fb : Framebuffer) (base : Nat) (f : Nat → BitVec 2) (n : Nat)
    (hfb : Store.wfFrom 0 fb = true) :
    let row := (List.range n).foldl (fun fb x => Store.write fb (base + x) (f x)) fb
    Store.wfFrom 0 row = true ∧
      (∀ x < n, Store.read row (base + x) = f x) ∧
      ∀ key, (∀ x < n, key ≠ base + x) → Store.read row key = Store.read fb key := by
  induction n with
  | zero => exact ⟨hfb, fun x hx => absurd hx (Nat.not_lt_zero x), fun _ _ => rfl⟩
  | succ n ih =>
    obtain ⟨hwf, hsame, hother⟩ := ih
    rw [List.range_succ, List.foldl_append]
    refine ⟨store_write_wfFrom _ _ _ (Nat.zero_le _) hwf, fun x hx => ?_, fun key hkey => ?_⟩
    · rcases Nat.lt_succ_iff_lt_or_eq.1 hx with hx | rfl
      · exact (store_read_write_other _ _ _ (by omega)).trans (hsame x hx)
      · exact store_read_write_same _ _ _ hwf
    · exact (store_read_write_other _ _ _ (hkey n (Nat.lt_succ_self n))).trans
        (hother key fun x hx => hkey x (Nat.lt_succ_of_lt hx))

/-- R610: drawing a line writes its 160 pixels and no other. -/
theorem read_drawLine (p : Ppu) (vram : Memory) (sprites : List Sprite) (hfb : Store.wfFrom 0 p.framebuffer = true)
    {row column : Nat} (hcolumn : column < 160) :
    Store.read (p.drawLine vram sprites) (row * 160 + column) =
      if row = p.ly.toNat then p.pixel vram sprites column else Store.read p.framebuffer (row * 160 + column) := by
  obtain ⟨-, hsame, hother⟩ := read_writeRow p.framebuffer (p.ly.toNat * 160) (p.pixel vram sprites) 160 hfb
  split
  case isTrue h => exact h ▸ hsame column hcolumn
  case isFalse h => exact hother _ fun x hx => by omega

/-- R601: mode 0 is that of the visible lines from dot 252 on. -/
theorem modeOf_eq_hblank_iff {ly dot : Nat} : modeOf ly dot = .hblank ↔ ly < 144 ∧ 252 ≤ dot := by
  unfold modeOf Config.visibleLines Config.oamScanDots Config.drawingDots
  split_ifs <;> simp <;> omega

/-- R601, R603: the dot after dot 251 of a visible line enters mode 0, which draws the line. -/
theorem beforeStat_draws {p : Ppu} (vram oam : Memory) (h : p.Legal) (hon : p.lcdOn = true) (hly : p.ly.toNat < 144)
    (hdot : p.dot = 251) :
    p.beforeStat vram oam =
      { p with
        dot := 252, mode := .hblank
        framebuffer := p.drawLine vram (p.scanOam oam)
        windowLine := if p.windowVisible then p.windowLine + 1#8 else p.windowLine } := by
  have hmode : p.mode = .drawing := by
    rw [(h.on hon).1, hdot]
    exact if_neg (Nat.not_le_of_gt hly)
  have hnext : modeOf p.ly.toNat 252 = .hblank := modeOf_eq_hblank_iff.2 ⟨hly, le_rfl⟩
  have hadvance : p.advanceDot = { p with dot := 252 } := by
    rw [Ppu.advanceDot, hdot]
    rfl
  rw [Ppu.beforeStat, hadvance, Ppu.changeMode]
  dsimp only
  rw [hnext, hmode]
  rfl

/-- R603, R610: a mode change draws nothing unless it enters mode 0. -/
theorem changeMode_framebuffer (p : Ppu) (vram oam : Memory)
    (h : modeOf p.ly.toNat p.dot = .hblank → p.mode = .hblank) :
    (p.changeMode vram oam).framebuffer = p.framebuffer := by
  unfold Ppu.changeMode
  dsimp only
  split
  case isTrue => rfl
  case isFalse hne =>
    cases hm : modeOf p.ly.toNat p.dot with
    | hblank => exact absurd (hm.trans (h hm).symm) hne
    | _ => rfl

/-- R601, R603: no other dot enters mode 0. -/
theorem advanceDot_hblank {p : Ppu} (h : p.Legal) (hon : p.lcdOn = true)
    (hother : ¬ (p.ly.toNat < 144 ∧ p.dot = 251))
    (hafter : modeOf p.advanceDot.ly.toNat p.advanceDot.dot = .hblank) : p.advanceDot.mode = .hblank := by
  rw [advanceDot_mode, (h.on hon).1]
  rw [modeOf_eq_hblank_iff] at hafter ⊢
  unfold Ppu.advanceDot at hafter
  split at hafter <;> dsimp only at hafter <;> omega

/-- Settles O55: the dot to 252 of a visible line draws it, and no other dot enters mode 0. -/
theorem lineDrawnAtHblank : Obligations.LineDrawnAtHblank := by
  intro s h hon p
  have htick : s.tickPpu.ppu = { p.beforeStat s.vram s.oam with statLine := (p.beforeStat s.vram s.oam).statLevel } :=
    if_pos hon
  refine ⟨fun hly hdot hfb => ?_, fun hother => ?_⟩
  · have hdraws := beforeStat_draws s.vram s.oam h hon hly hdot
    have hframe : s.tickPpu.ppu.framebuffer = p.drawLine s.vram (p.scanOam s.oam) := by rw [htick, hdraws]
    have hwf : Store.wfFrom 0 p.framebuffer = true := (Bool.and_eq_true_iff.1 hfb).1
    refine ⟨fun row column _ hcolumn => ?_, by rw [htick, hdraws]⟩
    rw [State.pixelAt, State.pixelAt, hframe]
    exact read_drawLine p s.vram (p.scanOam s.oam) hwf hcolumn
  · obtain ⟨-, -, -, -, -, hkept, -⟩ := advanceDot_spec p h.ly h.dot
    rw [htick]
    exact (changeMode_framebuffer _ _ _ (advanceDot_hblank h hon hother)).trans hkept

end Sys2Proof.Machine

/-!
PROOFS. The pixels of a line: those with no sprite on them (O56), and the sprites' (O57).
-/
namespace Sys2Proof.Machine

/-! ### Colour indices and shades as numbers -/

/-- A bit of a byte as a number. -/
theorem toNat_getLsbD {w : Nat} (v : BitVec w) (k : Nat) : (v.getLsbD k).toNat = v.toNat / 2 ^ k % 2 := by
  rw [BitVec.getLsbD, Nat.toNat_testBit]

/-- R614: a tile's pixel takes its high bit from the row's second byte and its low bit from the first. -/
theorem tilePixel_toNat (vram : Memory) (base row col : Nat) :
    (tilePixel vram base row col).toNat =
      2 * ((Store.read vram (base + 2 * row + 1)).toNat / 2 ^ (7 - col) % 2) +
        (Store.read vram (base + 2 * row)).toNat / 2 ^ (7 - col) % 2 := by
  simp only [tilePixel, toNat_append_eq_add, BitVec.toNat_ofBool, toNat_getLsbD, pow_one]

/-- R70, R617: a palette gives a colour index its two bits. -/
theorem shadeOf_toNat (palette : Byte) (index : BitVec 2) :
    (shadeOf palette index).toNat = palette.toNat / 4 ^ index.toNat % 4 := by
  rw [shadeOf, BitVec.extractLsb'_toNat, Nat.shiftRight_eq_div_pow, pow_mul]
  rfl

/-! ### The background and the window -/

/-- R614: `TileAddr(tidx)` as an address. -/
def Ppu.tileAddress (p : Ppu) (tidx : Nat) : Nat :=
  if p.lcdc.getLsbD 4 then 0x8000 + 16 * tidx
  else if tidx < 128 then 0x9000 + 16 * tidx else 0x9000 + 16 * tidx - 4096

theorem tileAddress_eq (p : Ppu) (tidx : Byte) : p.tileAddress tidx.toNat = 0x8000 + p.tileBase tidx := by
  unfold Ppu.tileAddress Ppu.tileBase
  rw [BitVec.toInt_eq_toNat_cond]
  split
  · omega
  · have := tidx.isLt
    split_ifs <;> omega

/-- R612, R613: the colour index at (col, row) of the tile map at an address of VRAM, as a number. -/
def Ppu.mapIndex (p : Ppu) (vram : Memory) (map row col : Nat) : Nat :=
  let byteAt := fun (a : Nat) => (Store.read vram (a - 0x8000)).toNat
  let tile := p.tileAddress (byteAt (map + row / 8 * 32 + col / 8))
  2 * (byteAt (tile + 2 * (row % 8) + 1) / 2 ^ (7 - col % 8) % 2) +
    byteAt (tile + 2 * (row % 8)) / 2 ^ (7 - col % 8) % 2

theorem mapPixel_toNat (p : Ppu) (vram : Memory) (map row col : Nat) :
    (p.mapPixel vram map row col).toNat = p.mapIndex vram (0x8000 + map) row col := by
  simp only [Ppu.mapPixel, Ppu.mapIndex, tilePixel_toNat, tileAddress_eq, Nat.add_assoc, Nat.add_sub_cancel_left]

/-- R66: the addresses of the two tile maps. -/
theorem mapOffset_eq (second : Bool) : 0x8000 + mapOffset second = if second then 0x9C00 else 0x9800 := by
  cases second <;> rfl

/-- R616: with no sprite a pixel is that of the background or window. -/
theorem pixel_nil (p : Ppu) (vram : Memory) (x : Nat) : p.pixel vram [] x = p.backShade (p.backPixel vram x) := rfl

/-- R612: the background's pixel. -/
theorem backgroundShade_toNat (p : Ppu) (vram : Memory) (x : Nat) :
    (p.backShade (p.backgroundPixel vram x)).toNat =
      if p.lcdc.getLsbD 0 then
        p.bgp.toNat / 4 ^ p.mapIndex vram (if p.lcdc.getLsbD 3 then 0x9C00 else 0x9800)
          ((p.scy.toNat + p.ly.toNat) % 256) ((p.scx.toNat + x) % 256) % 4
      else 0 := by
  unfold Ppu.backgroundPixel
  split
  · rw [Ppu.backShade, shadeOf_toNat, mapPixel_toNat, mapOffset_eq]
  · rfl

theorem windowCovers_iff (p : Ppu) (x : Nat) :
    p.windowCovers x = true ↔
      p.lcdc.getLsbD 5 = true ∧ p.wy.toNat ≤ p.ly.toNat ∧ p.wx.toNat ≤ 166 ∧ p.wx.toNat ≤ x + 7 := by
  simp only [Ppu.windowCovers, Ppu.windowVisible, Bool.and_eq_true, decide_eq_true_eq, and_assoc]

/-- Settles O56: the window's pixel where the window covers x, else the background's. -/
theorem backgroundAndWindowPixels : Obligations.BackgroundAndWindowPixels := by
  intro p vram x _ byteAt tileAddr tilePixel mapPixel shade
  rw [pixel_nil, Ppu.backPixel]
  simp only [windowCovers_iff]
  split
  · rw [Ppu.backShade, shadeOf_toNat, mapPixel_toNat, mapOffset_eq]
    rfl
  · exact backgroundShade_toNat p vram x

/-! ### The sprites of a line -/

/-- R611: the OAM scan, with the line and the sprites' height as numbers. -/
theorem scanOam_eq (p : Ppu) (oam : Memory) :
    p.scanOam oam =
      if p.lcdc.getLsbD 1 then
        (((List.range 40).map (Sprite.ofOam oam)).filter (fun q =>
          decide (q.y ≤ p.ly.toNat + 16 ∧ p.ly.toNat + 16 < q.y + p.spriteHeight))).take 10
      else [] := by
  have honLine : p.onLine = fun q : Sprite =>
      decide (q.y ≤ p.ly.toNat + 16 ∧ p.ly.toNat + 16 < q.y + p.spriteHeight) :=
    funext fun q => (Bool.decide_and ..).symm
  rw [Ppu.scanOam, honLine]
  rfl

/-- R615: the even tile of a pair. -/
theorem toNat_and_evenTile : ∀ t : Byte, (t &&& 0xFE#8).toNat = 2 * (t.toNat / 2) := by decide

/-- R615: a sprite's colour index, with the flips and the tile pair applied. -/
theorem spritePixel_toNat (p : Ppu) (vram : Memory) (q : Sprite) (x : Nat) :
    let line := p.ly.toNat + 16
    let row := if q.attr.getLsbD 6 then p.spriteHeight - 1 - (line - q.y) else line - q.y
    let col := if q.attr.getLsbD 5 then 7 - (x + 8 - q.x) else x + 8 - q.x
    let tile := if p.lcdc.getLsbD 2 then 2 * (q.tile.toNat / 2) else q.tile.toNat
    (p.spritePixel vram q x).toNat =
      2 * ((Store.read vram (16 * tile + 2 * row + 1)).toNat / 2 ^ (7 - col) % 2) +
        (Store.read vram (16 * tile + 2 * row)).toNat / 2 ^ (7 - col) % 2 := by
  intro line row col tile
  have htile : (if p.lcdc.getLsbD 2 then q.tile &&& 0xFE#8 else q.tile).toNat * 16 = 16 * tile := by
    rw [Nat.mul_comm, apply_ite BitVec.toNat, toNat_and_evenTile]
  rw [Ppu.spritePixel, tilePixel_toNat, htile]

/-! ### The winning sprite -/

/-- R615, R616: whether a sprite is a candidate at screen x: it covers x with a pixel that is not transparent. -/
def Ppu.draws (p : Ppu) (vram : Memory) (x : Nat) (q : Sprite) : Bool :=
  q.covers x && decide (p.spritePixel vram q x ≠ 0#2)

theorem draws_iff (p : Ppu) (vram : Memory) (x : Nat) (q : Sprite) :
    p.draws vram x q = true ↔ q.x ≤ x + 8 ∧ x + 8 < q.x + 8 ∧ p.spritePixel vram q x ≠ 0#2 := by
  simp only [Ppu.draws, Sprite.covers, Bool.and_eq_true, decide_eq_true_eq, and_assoc]

/-- R616: the winner is chosen among the candidates, each with its colour index. -/
theorem winningSprite_eq (p : Ppu) (vram : Memory) (sprites : List Sprite) (x : Nat) :
    p.winningSprite vram sprites x =
      ((sprites.filter (p.draws vram x)).map (fun q => (q, p.spritePixel vram q x))).foldl betterSprite none := by
  have hdraws : p.draws vram x = fun q =>
      decide (p.spritePixel vram q x ≠ 0#2) && q.covers x := funext fun q => Bool.and_comm ..
  rw [hdraws, ← List.filter_filter, Ppu.winningSprite, List.filter_map]
  rfl

/-- R616: of candidates in OAM order the fold keeps one; none has a lower x, and none before it has the same. -/
theorem foldl_betterSprite (cs : List (Sprite × BitVec 2)) :
    match cs.foldl betterSprite none with
    | none => cs = []
    | some w => ∃ before after, cs = before ++ w :: after ∧
        (∀ c ∈ before, w.1.x < c.1.x) ∧ ∀ c ∈ after, w.1.x ≤ c.1.x := by
  induction cs using List.reverseRecOn with
  | nil => rfl
  | append_singleton cs c ih =>
    rw [List.foldl_append, List.foldl_cons, List.foldl_nil]
    cases hbest : cs.foldl betterSprite none with
    | none =>
      rw [hbest] at ih
      subst ih
      exact ⟨[], [], rfl, by simp, by simp⟩
    | some w =>
      rw [hbest] at ih
      obtain ⟨before, after, rfl, hbefore, hafter⟩ := ih
      rw [betterSprite]
      by_cases hc : c.1.x < w.1.x
      · rw [if_pos hc]
        refine ⟨before ++ w :: after, [], rfl, fun q hq => ?_, by simp⟩
        rcases List.mem_append.1 hq with hq | hq
        · exact hc.trans (hbefore q hq)
        · rcases List.mem_cons.1 hq with rfl | hq
          · exact hc
          · exact hc.trans_le (hafter q hq)
      · rw [if_neg hc]
        refine ⟨before, after ++ [c], by simp, hbefore, fun q hq => ?_⟩
        rcases List.mem_append.1 hq with hq | hq
        · exact hafter q hq
        · rw [List.mem_singleton.1 hq]
          exact Nat.le_of_not_lt hc

section
variable {p : Ppu} {vram : Memory} {sprites : List Sprite} {x : Nat}

/-- R616: without a winner there is no candidate. -/
theorem winningSprite_eq_none (h : p.winningSprite vram sprites x = none) {q : Sprite} (hq : q ∈ sprites) :
    ¬ p.draws vram x q = true := by
  have hfold := foldl_betterSprite ((sprites.filter (p.draws vram x)).map fun q => (q, p.spritePixel vram q x))
  rw [← winningSprite_eq, h] at hfold
  exact List.filter_eq_nil_iff.1 (List.map_eq_nil_iff.1 hfold) q hq

/-- R616: the winner is a candidate with its own colour index; the candidates before it in OAM have a higher x, those
after it no lower one. -/
theorem winningSprite_eq_some {w : Sprite} {index : BitVec 2} (h : p.winningSprite vram sprites x = some (w, index)) :
    p.draws vram x w = true ∧ index = p.spritePixel vram w x ∧
      ∃ before after, sprites = before ++ w :: after ∧
        (∀ q ∈ before, p.draws vram x q = true → w.x < q.x) ∧
        ∀ q ∈ after, p.draws vram x q = true → w.x ≤ q.x := by
  have hfold := foldl_betterSprite ((sprites.filter (p.draws vram x)).map fun q => (q, p.spritePixel vram q x))
  rw [← winningSprite_eq, h] at hfold
  obtain ⟨before, after, hsplit, hbefore, hafter⟩ := hfold
  obtain ⟨drawn, rest, hdrawn, rfl, hrest⟩ := List.map_eq_append_iff.1 hsplit
  obtain ⟨q, later, rfl, hq, rfl⟩ := List.map_eq_cons_iff.1 hrest
  obtain ⟨rfl, rfl⟩ := Prod.mk.inj hq
  obtain ⟨front, back, rfl, rfl, hback⟩ := List.filter_eq_append_iff.1 hdrawn
  obtain ⟨skipped, last, rfl, hskipped, hdraws, rfl⟩ := List.filter_eq_cons_iff.1 hback
  refine ⟨hdraws, rfl, front ++ skipped, last, by simp, fun r hr hd => ?_, fun r hr hd => ?_⟩
  · rcases List.mem_append.1 hr with hr | hr
    · exact hbefore _ (List.mem_map_of_mem (List.mem_filter.2 ⟨hr, hd⟩))
    · exact absurd hd (hskipped r hr)
  · exact hafter _ (List.mem_map_of_mem (List.mem_filter.2 ⟨hr, hd⟩))

/-- R616: without a winner the pixel is the one with no sprite. -/
theorem pixel_of_no_winner (h : p.winningSprite vram sprites x = none) :
    p.pixel vram sprites x = p.pixel vram [] x := by
  rw [pixel_nil, Ppu.pixel, h]

/-- R616: a winner in front of the background or over its index 0 shows, through its palette. -/
theorem pixel_of_winner_shown {w : Sprite} {index : BitVec 2} (h : p.winningSprite vram sprites x = some (w, index))
    (hshown : w.attr.getLsbD 7 = false ∨ (p.backPixel vram x).getD 0#2 = 0#2) :
    p.pixel vram sprites x = shadeOf (p.spritePalette w) index := by
  rw [Ppu.pixel, h]
  exact if_pos (by simpa using hshown)

/-- R616: a winner behind a non-zero index of the background does not show. -/
theorem pixel_of_winner_hidden {w : Sprite} {index : BitVec 2} (h : p.winningSprite vram sprites x = some (w, index))
    (hbehind : w.attr.getLsbD 7 = true) (hback : (p.backPixel vram x).getD 0#2 ≠ 0#2) :
    p.pixel vram sprites x = p.pixel vram [] x := by
  rw [pixel_nil, Ppu.pixel, h]
  exact if_neg (by simp [hbehind, hback])

end

/-- Settles O57: the scan, the sprites' pixels, the split of the line's sprites at the winner, and when it shows. -/
theorem spriteSelectionAndPriority : Obligations.SpriteSelectionAndPriority := by
  intro p vram oam x line height byteAt entry sprites drawn
  refine ⟨scanOam_eq p oam, fun q _ _ _ => spritePixel_toNat p vram q x, fun w index h => ?_,
    fun h => ⟨fun q hq hd => winningSprite_eq_none h hq ((draws_iff p vram x q).2 hd), pixel_of_no_winner h⟩⟩
  obtain ⟨hdraws, hindex, before, after, hsplit, hbefore, hafter⟩ := winningSprite_eq_some h
  refine ⟨(draws_iff p vram x w).1 hdraws, hindex,
    ⟨before, after, hsplit, fun q hq hd => hbefore q hq ((draws_iff p vram x q).2 hd),
      fun q hq hd => hafter q hq ((draws_iff p vram x q).2 hd)⟩, fun hshown => ?_, pixel_of_winner_hidden h⟩
  rw [pixel_of_winner_shown h hshown, shadeOf_toNat]
  rfl

end Sys2Proof.Machine

/-!
PROOFS. The I/O registers (O43) and the host's `set_buttons` (O58).
-/
namespace Sys2Proof.Machine

/-! ### Readings with unused bits -/

/-- R661: a group that is not selected reads 1 in all its lines; in a selected one a pressed button reads 0. -/
theorem group_getLsbD (sel : Bool) (pressed : BitVec 4) (i : Fin 4) :
    (if sel then 0xF#4 else ~~~pressed).getLsbD i = !(!sel && pressed.getLsbD i) := by
  cases sel with
  | true => exact (by decide : ∀ i : Fin 4, (0xF#4).getLsbD i = true) i
  | false => simp

/-- R661: the joypad lines are the AND of the two groups. -/
theorem lines_getLsbD (j : Joypad) (i : Fin 4) :
    j.lines.getLsbD i =
      !((!j.selDirs && j.buttons.getLsbD i) || (!j.selButtons && j.buttons.getLsbD (4 + i))) := by
  rw [Joypad.lines, BitVec.getLsbD_and, group_getLsbD, group_getLsbD, Bool.not_or]
  simp only [BitVec.getLsbD_extractLsb', i.isLt, decide_true, Bool.true_and, Nat.zero_add]

/-- R661: P1's unused bits, its select bits and the joypad lines. -/
theorem readP1_getLsbD (j : Joypad) :
    j.readP1.getLsbD 7 = true ∧ j.readP1.getLsbD 6 = true ∧ j.readP1.getLsbD 5 = j.selButtons ∧
      j.readP1.getLsbD 4 = j.selDirs ∧ ∀ i : Fin 4, j.readP1.getLsbD i = j.lines.getLsbD i := by
  simp only [Joypad.readP1, BitVec.getLsbD_append]
  refine ⟨rfl, rfl, ?_, ?_, fun i => if_pos i.isLt⟩
  · cases j.selButtons <;> rfl
  · cases j.selDirs <;> rfl

/-- R60: SC's two stored bits. -/
theorem readSc_toNat (r : Serial) :
    r.readSc.toNat = 0x7E + 128 * r.transferStart.toNat + r.clockSelect.toNat := by
  rw [Serial.readSc]
  cases r.transferStart <;> cases r.clockSelect <;> rfl

/-- R609: STAT's fields. -/
theorem readStat_toNat (p : Ppu) :
    p.readStat.toNat =
      0x80 + 8 * p.statSelect.toNat + 4 * (decide (p.ly = p.lyc)).toNat + p.mode.number.toNat := by
  simp only [Ppu.readStat, toNat_append_eq_add, BitVec.toNat_ofBool]
  rw [show (1#1).toNat = 1 from rfl]
  omega

/-- R609: STAT's select bits in a byte written to it. -/
theorem extract_select (v : Byte) : v.extractLsb' 3 4 = BitVec.ofNat 4 (v.toNat / 8) := by
  apply BitVec.eq_of_toNat_eq
  rw [BitVec.extractLsb'_toNat, Nat.shiftRight_eq_div_pow, BitVec.toNat_ofNat]

/-! ### The addresses that store nothing -/

/-- R668, R669: the offsets of the sound range and those that are not mapped. -/
theorem ioRegAt_unused : ∀ off < 0x80,
    off = 0x03 ∨ (0x08 ≤ off ∧ off ≤ 0x0E) ∨ (0x10 ≤ off ∧ off ≤ 0x3F) ∨ 0x4C ≤ off →
      ioRegAt off = .sound ∨ ioRegAt off = .unmapped := by decide

/-- R668, R669: such an address reads 0xFF, and a write to it is ignored. -/
theorem access_unused (s : State) (a : Word) (v : Byte) (hlow : 0xFF00 ≤ a.toNat) (hhigh : a.toNat < 0xFF80)
    (h : ioRegAt (a.toNat - 0xFF00) = .sound ∨ ioRegAt (a.toNat - 0xFF00) = .unmapped) :
    s.read a = 0xFF#8 ∧ s.write a v = s := by
  rw [State.read, State.write, regionOf_io hlow hhigh]
  rcases h with h | h <;> rw [h] <;> exact ⟨rfl, rfl⟩

/-- R602, R609: with the LCD off STAT's mode and LY read 0. -/
theorem lcdOff_reads {s : State} (hs : s.Inv) (hoff : s.ppu.lcdOn = false) :
    s.ppu.mode = .hblank ∧ s.read 0xFF44#16 = 0x00#8 := by
  obtain ⟨hly, -, hmode, -⟩ := hs.ppu.off hoff
  exact ⟨hmode, hly⟩

/-- Settles O43: each register is one equation of the bus; the rest are the unused offsets. -/
theorem ioRegisterMap : Obligations.IoRegisterMap := by
  intro s v
  obtain ⟨h7, h6, h5, h4, hlines⟩ := readP1_getLsbD s.joypad
  have hstat : (s.read 0xFF41#16).toNat = _ := readStat_toNat s.ppu
  refine ⟨⟨h7, h6, h5, h4, fun i => (hlines i).trans (lines_getLsbD s.joypad i), rfl⟩, ⟨rfl, rfl⟩,
    ⟨readSc_toNat s.serial, rfl⟩, ⟨toNat_highByte _, rfl, rfl, toNat_append_eq_add _ _⟩,
    ⟨toNat_unusedHigh s.intFlag, rfl⟩, rfl, ⟨?_, ?_, lcdOff_reads⟩, ⟨rfl, rfl⟩, ⟨rfl, rfl⟩,
    ⟨rfl, rfl⟩, ⟨rfl, rfl⟩, rfl, ⟨rfl, rfl⟩, ⟨rfl, rfl⟩, ⟨rfl, rfl⟩, ⟨rfl, rfl⟩, ⟨rfl, rfl⟩, fun a ha => ?_⟩
  · rw [hstat]
    cases s.ppu.mode <;> rfl
  · rw [← extract_select]
    rfl
  · have hrange : 0xFF00 ≤ a.toNat ∧ a.toNat < 0xFF80 := by bv_omega
    exact access_unused s a v hrange.1 hrange.2 (ioRegAt_unused _ (by omega) (by bv_omega))

/-! ### The buttons -/

/-- R662: a button is newly pressed when its bit is in the mask and not in the old one. -/
theorem newlyPressed_iff (mask buttons : Byte) :
    mask &&& ~~~buttons ≠ 0x00#8 ↔ ∃ i : Fin 8, mask.getLsbD i = true ∧ buttons.getLsbD i = false := by
  have hbit (i : Fin 8) :
      (mask &&& ~~~buttons).getLsbD i = true ↔ mask.getLsbD i = true ∧ buttons.getLsbD i = false := by
    rw [BitVec.getLsbD_and, BitVec.getLsbD_not, decide_eq_true i.isLt, Bool.true_and, Bool.and_eq_true,
      Bool.not_eq_true']
  simp only [← hbit, ne_eq, BitVec.eq_of_getLsbD_eq_iff, Fin.exists_iff, not_forall, BitVec.getLsbD_zero,
    Bool.not_eq_false]

/-- Settles O58: the request is raised when a button is newly pressed. -/
theorem setButtons : Obligations.SetButtons := by
  intro s mask
  rw [State.setButtons, State.request]
  simp only [decide_eq_true_eq, newlyPressed_iff]
  rfl

end Sys2Proof.Machine
